-- ==== Sys2Proof/Word.lean ====
section
/-! DEFINITION. The widths of 00_scope.md R8 as types. Every value is an unsigned bit vector of its width (R11), bit 0 the
least significant (R10). -/

namespace Sys2Proof

/-- A byte of the program image (R57). -/
abbrev Byte := BitVec 8

/-- The bus, the literal register, A, B, the flags latch, the cache and DRAM words and their latches (R8, D7). -/
abbrev Word := BitVec 32

/-- A word of program memory: one instruction (R8, R60). -/
abbrev ProgWord := BitVec 24

/-- The opcode-type field, `type` (R61). -/
abbrev OpType := BitVec 8

/-- The immediate field, `data` (R61). -/
abbrev Imm := BitVec 16

/-- A value of the program counter or of the return slot: an index into program memory (R21, R24). -/
abbrev ProgIndex := BitVec 16

/-- A bus-selector code (R26). -/
abbrev SelCode := BitVec 4

end Sys2Proof
end

