-- ==== Sys2Proof/Syntax.lean ====
section
/-! DEFINITION. The syntax of the machine: its 35 instruction classes (30_encoding.md R64), its instructions (a class with
its 16-bit immediate, R61), the 16 bus sources (R67), the comparator's outcomes and predicates (R120) and the device kinds
(R171 to R182). -/

namespace Sys2Proof

/-- The instruction classes, in the order of R64. -/
inductive OpClass where
  | litl
  | lith
  | bus
  | seta
  | setb
  | setc
  | setf
  | jmp
  | jlt
  | jle
  | jgt
  | jge
  | jeq
  | jne
  | call
  | ret
  | caddr
  | cdata
  | cwr
  | daddr
  | dinc
  | ddata
  | dwr
  | tcolor
  | tchar
  | tcursor
  | ucfg
  | utx
  | rtc
  | kbd
  | timer
  | spkr
  | vpix
  | vblink
  | serdrv
  deriving DecidableEq, Repr

/-- Every class, in the order of R64. -/
def OpClass.all : List OpClass :=
  [.litl, .lith, .bus, .seta, .setb, .setc, .setf, .jmp, .jlt,
   .jle, .jgt, .jge, .jeq, .jne, .call, .ret, .caddr, .cdata,
   .cwr, .daddr, .dinc, .ddata, .dwr, .tcolor, .tchar, .tcursor, .ucfg,
   .utx, .rtc, .kbd, .timer, .spkr, .vpix, .vblink, .serdrv]

/-- A class's place in the order of R64. -/
def OpClass.index : OpClass → Fin 35
  | .litl => 0
  | .lith => 1
  | .bus => 2
  | .seta => 3
  | .setb => 4
  | .setc => 5
  | .setf => 6
  | .jmp => 7
  | .jlt => 8
  | .jle => 9
  | .jgt => 10
  | .jge => 11
  | .jeq => 12
  | .jne => 13
  | .call => 14
  | .ret => 15
  | .caddr => 16
  | .cdata => 17
  | .cwr => 18
  | .daddr => 19
  | .dinc => 20
  | .ddata => 21
  | .dwr => 22
  | .tcolor => 23
  | .tchar => 24
  | .tcursor => 25
  | .ucfg => 26
  | .utx => 27
  | .rtc => 28
  | .kbd => 29
  | .timer => 30
  | .spkr => 31
  | .vpix => 32
  | .vblink => 33
  | .serdrv => 34

/-- A class's mnemonic, as R64 spells it. -/
def OpClass.mnemonic : OpClass → String
  | .litl => "LITL"
  | .lith => "LITH"
  | .bus => "BUS"
  | .seta => "SETA"
  | .setb => "SETB"
  | .setc => "SETC"
  | .setf => "SETF"
  | .jmp => "JMP"
  | .jlt => "JLT"
  | .jle => "JLE"
  | .jgt => "JGT"
  | .jge => "JGE"
  | .jeq => "JEQ"
  | .jne => "JNE"
  | .call => "CALL"
  | .ret => "RET"
  | .caddr => "CADDR"
  | .cdata => "CDATA"
  | .cwr => "CWR"
  | .daddr => "DADDR"
  | .dinc => "DINC"
  | .ddata => "DDATA"
  | .dwr => "DWR"
  | .tcolor => "TCOLOR"
  | .tchar => "TCHAR"
  | .tcursor => "TCURSOR"
  | .ucfg => "UCFG"
  | .utx => "UTX"
  | .rtc => "RTC"
  | .kbd => "KBD"
  | .timer => "TIMER"
  | .spkr => "SPKR"
  | .vpix => "VPIX"
  | .vblink => "VBLINK"
  | .serdrv => "SERDRV"

/-- The instructions: one constructor for each row of the opcode map (R64), each with the whole 16-bit immediate `data`,
which every instruction folds into the literal register (R63, R82). -/
inductive Instr where
  /-- `LITL data`: set-low literal (R85). -/
  | litl (data : Imm)
  /-- `LITH data`: set-high literal (R86). -/
  | lith (data : Imm)
  /-- `BUS data`: set the bus selector (R87). -/
  | bus (data : Imm)
  /-- `SETA data`: load A from the bus (R111). -/
  | seta (data : Imm)
  /-- `SETB data`: load B from the bus (R112). -/
  | setb (data : Imm)
  /-- `SETC data`: load the carry-in from bus bit 3 (R113). -/
  | setc (data : Imm)
  /-- `SETF data`: load the ALU-flags latch from the bus (R122). -/
  | setf (data : Imm)
  /-- `JMP data`: unconditional jump (R140). -/
  | jmp (data : Imm)
  /-- `JLT data`: jump if less-than (R123). -/
  | jlt (data : Imm)
  /-- `JLE data`: jump if less-or-equal (R124). -/
  | jle (data : Imm)
  /-- `JGT data`: jump if greater-than (R125). -/
  | jgt (data : Imm)
  /-- `JGE data`: jump if greater-or-equal (R126). -/
  | jge (data : Imm)
  /-- `JEQ data`: jump if equal (R127). -/
  | jeq (data : Imm)
  /-- `JNE data`: jump if not-equal (R128). -/
  | jne (data : Imm)
  /-- `CALL data`: call, the target from the bus (R141). -/
  | call (data : Imm)
  /-- `RET data`: return (R142). -/
  | ret (data : Imm)
  /-- `CADDR data`: cache set-address (R150). -/
  | caddr (data : Imm)
  /-- `CDATA data`: cache set-data-latch (R151). -/
  | cdata (data : Imm)
  /-- `CWR data`: cache commit-write (R152). -/
  | cwr (data : Imm)
  /-- `DADDR data`: DRAM set-address (R153). -/
  | daddr (data : Imm)
  /-- `DINC data`: DRAM increment-address (R154). -/
  | dinc (data : Imm)
  /-- `DDATA data`: DRAM set-data-latch (R155). -/
  | ddata (data : Imm)
  /-- `DWR data`: DRAM commit-write (R156). -/
  | dwr (data : Imm)
  /-- `TCOLOR data`: text console, set text colour (R171). -/
  | tcolor (data : Imm)
  /-- `TCHAR data`: text console, write character (R172). -/
  | tchar (data : Imm)
  /-- `TCURSOR data`: text console, set cursor (R173). -/
  | tcursor (data : Imm)
  /-- `UCFG data`: UART configure (R174). -/
  | ucfg (data : Imm)
  /-- `UTX data`: UART transmit (R175). -/
  | utx (data : Imm)
  /-- `RTC data`: RTC hook (R176). -/
  | rtc (data : Imm)
  /-- `KBD data`: keyboard hook (R177). -/
  | kbd (data : Imm)
  /-- `TIMER data`: timer hook (R178). -/
  | timer (data : Imm)
  /-- `SPKR data`: speaker hook (R179). -/
  | spkr (data : Imm)
  /-- `VPIX data`: VGA pixel mode (R180). -/
  | vpix (data : Imm)
  /-- `VBLINK data`: VGA blink mode (R181). -/
  | vblink (data : Imm)
  /-- `SERDRV data`: serial drive (R182). -/
  | serdrv (data : Imm)
  deriving DecidableEq, Repr

/-- The class of an instruction. -/
def Instr.cls : Instr → OpClass
  | .litl _ => .litl
  | .lith _ => .lith
  | .bus _ => .bus
  | .seta _ => .seta
  | .setb _ => .setb
  | .setc _ => .setc
  | .setf _ => .setf
  | .jmp _ => .jmp
  | .jlt _ => .jlt
  | .jle _ => .jle
  | .jgt _ => .jgt
  | .jge _ => .jge
  | .jeq _ => .jeq
  | .jne _ => .jne
  | .call _ => .call
  | .ret _ => .ret
  | .caddr _ => .caddr
  | .cdata _ => .cdata
  | .cwr _ => .cwr
  | .daddr _ => .daddr
  | .dinc _ => .dinc
  | .ddata _ => .ddata
  | .dwr _ => .dwr
  | .tcolor _ => .tcolor
  | .tchar _ => .tchar
  | .tcursor _ => .tcursor
  | .ucfg _ => .ucfg
  | .utx _ => .utx
  | .rtc _ => .rtc
  | .kbd _ => .kbd
  | .timer _ => .timer
  | .spkr _ => .spkr
  | .vpix _ => .vpix
  | .vblink _ => .vblink
  | .serdrv _ => .serdrv

/-- The immediate of an instruction. -/
def Instr.data : Instr → Imm
  | .litl d => d
  | .lith d => d
  | .bus d => d
  | .seta d => d
  | .setb d => d
  | .setc d => d
  | .setf d => d
  | .jmp d => d
  | .jlt d => d
  | .jle d => d
  | .jgt d => d
  | .jge d => d
  | .jeq d => d
  | .jne d => d
  | .call d => d
  | .ret d => d
  | .caddr d => d
  | .cdata d => d
  | .cwr d => d
  | .daddr d => d
  | .dinc d => d
  | .ddata d => d
  | .dwr d => d
  | .tcolor d => d
  | .tchar d => d
  | .tcursor d => d
  | .ucfg d => d
  | .utx d => d
  | .rtc d => d
  | .kbd d => d
  | .timer d => d
  | .spkr d => d
  | .vpix d => d
  | .vblink d => d
  | .serdrv d => d

/-- The instruction of a class with an immediate. -/
def OpClass.instr : OpClass → Imm → Instr
  | .litl, d => .litl d
  | .lith, d => .lith d
  | .bus, d => .bus d
  | .seta, d => .seta d
  | .setb, d => .setb d
  | .setc, d => .setc d
  | .setf, d => .setf d
  | .jmp, d => .jmp d
  | .jlt, d => .jlt d
  | .jle, d => .jle d
  | .jgt, d => .jgt d
  | .jge, d => .jge d
  | .jeq, d => .jeq d
  | .jne, d => .jne d
  | .call, d => .call d
  | .ret, d => .ret d
  | .caddr, d => .caddr d
  | .cdata, d => .cdata d
  | .cwr, d => .cwr d
  | .daddr, d => .daddr d
  | .dinc, d => .dinc d
  | .ddata, d => .ddata d
  | .dwr, d => .dwr d
  | .tcolor, d => .tcolor d
  | .tchar, d => .tchar d
  | .tcursor, d => .tcursor d
  | .ucfg, d => .ucfg d
  | .utx, d => .utx d
  | .rtc, d => .rtc d
  | .kbd, d => .kbd d
  | .timer, d => .timer d
  | .spkr, d => .spkr d
  | .vpix, d => .vpix d
  | .vblink, d => .vblink d
  | .serdrv, d => .serdrv d

/-- The 16 bus-source identifiers, in the order of R67. -/
inductive BusSource where
  | lit | state | dramData | dramAddr | cacheData | shl | shr | and | or | xor | sum
  | dev0 | dev1 | dev2 | dev3 | dev4
  deriving DecidableEq, Repr

/-- Every bus source, in the order of R67. -/
def BusSource.all : List BusSource :=
  [.lit, .state, .dramData, .dramAddr, .cacheData, .shl, .shr, .and, .or, .xor, .sum,
   .dev0, .dev1, .dev2, .dev3, .dev4]

/-- The literal-valued sources: the literal register itself, STATE and the device placeholders (R101). -/
def BusSource.isLiteral : BusSource → Bool
  | .lit | .state | .dev0 | .dev1 | .dev2 | .dev3 | .dev4 => true
  | .dramData | .dramAddr | .cacheData | .shl | .shr | .and | .or | .xor | .sum => false

/-- The comparator's three outcomes (R120). -/
inductive CmpOutcome where
  | lt | eq | gt
  deriving DecidableEq, Repr

/-- The six predicates of the comparator (R120, C1). -/
inductive CmpPred where
  | lt | le | gt | ge | eq | ne
  deriving DecidableEq, Repr

/-- The device kinds of the device port, one for each device instruction (R171 to R182). -/
inductive DeviceKind where
  | textColor | textChar | textCursor | uartConfig | uartTx | rtc | keyboard | timer | speaker
  | vgaPixelMode | vgaBlinkMode | serialDrive
  deriving DecidableEq, Repr

/-- One event `Dev(kind, v)` on the device port (R170). -/
structure DevEvent where
  kind  : DeviceKind
  value : Word
  deriving DecidableEq, Repr

end Sys2Proof
end

