-- ==== Sys2Proof/Config.lean ====
section
/-! DEFINITION. The launch parameters of 00_scope.md R9. Each is plain data that can describe EVERY value the spec allows
the parameter, so that a statement over all configurations is a statement over all parameter values. The reference values
are read by definitions in Decode.lean and Machine/Flags.lean. -/

namespace Sys2Proof

/-- `OPCODE_MAP`: the reference map of R64, or the 35 opcode-type values in the order of R64 (decision D1). -/
inductive OpcodeMap where
  | reference
  | custom (values : Vector (BitVec 8) 35)
  deriving DecidableEq, Repr

/-- `SEL_MAP`: the reference map of R67, or the source that each of the codes 0 to 15 names (decision D2). -/
inductive SelectorMap where
  | reference
  | custom (sources : Vector BusSource 16)
  deriving DecidableEq, Repr

/-- `CMP_OUTCOME`: the reference comparator of R121, or any function from the flags latch to an outcome, written as the
outcomes of listed values and the outcome of every other value (decision D4). -/
inductive Comparator where
  | reference
  | custom (entries : List (Word × CmpOutcome)) (otherwise : CmpOutcome)
  deriving DecidableEq, Repr

/-- The parameters of R9 that stay fixed for a launch. `RESET_DRAW` is the argument of a launch
(`Machine.ResetDraw`). -/
structure Config where
  /-- PROG_LEN, the number of words of program memory. -/
  progLen     : Nat
  /-- CACHE_LEN, the number of words of the cache. -/
  cacheLen    : Nat
  /-- DRAM_LEN, the number of words of DRAM. -/
  dramLen     : Nat
  opcodeMap   : OpcodeMap
  selectorMap : SelectorMap
  comparator  : Comparator
  deriving DecidableEq, Repr

/-- The configuration of `State.reset`: the reference maps and comparator, CACHE_LEN and DRAM_LEN as in the examples of
95_test_vectors.md, and the largest PROG_LEN. DESIGN CHOICE (log 2), unsafe: the source gives no size (decision D8). -/
def Config.reference : Config where
  progLen     := 65536
  cacheLen    := 16
  dramLen     := 1000
  opcodeMap   := .reference
  selectorMap := .reference
  comparator  := .reference

end Sys2Proof
end

