-- ==== Sys2Proof/WellFormed.lean ====
section
/-! DEFINITION. Well-formedness. An instruction has no check of its own: "Every `data` value is legal with every assigned
`type`" (30_encoding.md R66), and the types of its fields are their widths. What the spec constrains are the launch
parameters (00_scope.md R9). -/

namespace Sys2Proof

/-- Every instruction is well formed (R66): there are no reserved bits, no illegal operand values. -/
def Instr.wf : Instr → Bool := fun _ => true

/-- OPCODE_MAP is injective (R9). -/
def OpcodeMap.wf : OpcodeMap → Bool
  | .reference => true
  | .custom values => decide values.toList.Nodup

/-- SEL_MAP is a bijection onto 0 to 15 (R9): no source stands at two of the 16 codes. -/
def SelectorMap.wf : SelectorMap → Bool
  | .reference => true
  | .custom sources => decide sources.toList.Nodup

/-- The constraints of R9 on the parameters. CMP_OUTCOME is only required to be total, which every `Comparator` is. -/
def Config.wf (c : Config) : Bool :=
  decide (1 ≤ c.progLen) && decide (c.progLen ≤ 65536) && decide (1 ≤ c.cacheLen) && decide (1 ≤ c.dramLen) &&
    c.opcodeMap.wf && c.selectorMap.wf

end Sys2Proof
end

