-- ==== Sys2Proof/Decode.lean ====
section
/-! DEFINITION. 30_encoding.md: the two fields of an instruction word, the opcode map and the selector map (the reference
values of R64 and R67, or the launch's own), the decoder, total on any word and on any bytes and rejecting by name, and
after it the encoder. -/

namespace Sys2Proof

/-- `type`: w[23:16] (R61). -/
def typeOf (w : ProgWord) : OpType := w.extractLsb' 16 8

/-- `data`: w[15:0] (R61). -/
def dataOf (w : ProgWord) : Imm := w.extractLsb' 0 16

/-- The word of a pair of fields: `type ++ data` (R62). -/
def wordOf (t : OpType) (d : Imm) : ProgWord := t ++ d

/-- The reference opcode-type values (R64, decision D1; DESIGN CHOICE of the spec, log 12). -/
def refOpcode : OpClass → OpType
  | .litl => 0x00
  | .lith => 0x01
  | .bus => 0x02
  | .seta => 0x03
  | .setb => 0x04
  | .setc => 0x05
  | .setf => 0x06
  | .jmp => 0x07
  | .jlt => 0x08
  | .jle => 0x09
  | .jgt => 0x0A
  | .jge => 0x0B
  | .jeq => 0x0C
  | .jne => 0x0D
  | .call => 0x0E
  | .ret => 0x0F
  | .caddr => 0x10
  | .cdata => 0x11
  | .cwr => 0x12
  | .daddr => 0x13
  | .dinc => 0x14
  | .ddata => 0x15
  | .dwr => 0x16
  | .tcolor => 0x17
  | .tchar => 0x18
  | .tcursor => 0x19
  | .ucfg => 0x1A
  | .utx => 0x1B
  | .rtc => 0x1C
  | .kbd => 0x1D
  | .timer => 0x1E
  | .spkr => 0x1F
  | .vpix => 0x20
  | .vblink => 0x21
  | .serdrv => 0x22

/-- `OPCODE_MAP(c)` (R9, R64). -/
def OpcodeMap.code : OpcodeMap → OpClass → OpType
  | .reference, c => refOpcode c
  | .custom values, c => values.get c.index

/-- The class whose opcode-type value is `t`, if any (R65, R81: chosen by `type` alone). -/
def OpcodeMap.classOf (m : OpcodeMap) (t : OpType) : Option OpClass :=
  OpClass.all.find? fun c => m.code c == t

/-- The source of each selector code in the reference map (R67, decisions D2 and D18; log 13). -/
def refSource (code : SelCode) : BusSource :=
  match code.toNat with
  | 0 => .lit
  | 1 => .state
  | 2 => .dramData
  | 3 => .dramAddr
  | 4 => .cacheData
  | 5 => .shl
  | 6 => .shr
  | 7 => .and
  | 8 => .or
  | 9 => .xor
  | 10 => .sum
  | 11 => .dev0
  | 12 => .dev1
  | 13 => .dev2
  | 14 => .dev3
  | _ => .dev4

/-- `source(code)`, that is `SEL_MAP^-1` (R100). Total: each of the 16 codes names a source (R26, R110). -/
def SelectorMap.source : SelectorMap → SelCode → BusSource
  | .reference, code => refSource code
  | .custom sources, code => sources.get code.toFin

/-- `SEL_MAP(src)`: the code that names `src` (R67). -/
def SelectorMap.code (m : SelectorMap) (src : BusSource) : SelCode :=
  ((List.range 16).find? fun n => m.source (BitVec.ofNat 4 n) == src).elim 0 (BitVec.ofNat 4)

/-- Why the decoder answers no instruction. -/
inductive DecodeError where
  /-- The type has no handler (R65); executing it is the fault of R201. -/
  | unknownOpcode (type : OpType)
  /-- Fewer than three bytes: a partial word (R57). -/
  | partialWord
  deriving DecidableEq, Repr

/-- The instruction of a program word under an opcode map (R61, R64, R65). -/
def decodeWord (m : OpcodeMap) (w : ProgWord) : Except DecodeError Instr :=
  match m.classOf (typeOf w) with
  | some c => .ok (c.instr (dataOf w))
  | none => .error (.unknownOpcode (typeOf w))

/-- The word of three image bytes, low byte first (R48, R57). -/
def wordOfBytes (b0 b1 b2 : Byte) : ProgWord := b2 ++ b1 ++ b0

/-- The first instruction of a byte sequence and the bytes after it (R57, R60: three bytes a word). -/
def decodeBytes (m : OpcodeMap) : List Byte → Except DecodeError (Instr × List Byte)
  | b0 :: b1 :: b2 :: rest =>
    match decodeWord m (wordOfBytes b0 b1 b2) with
    | .ok i => .ok (i, rest)
    | .error e => .error e
  | _ => .error .partialWord

/-- The `n` low bytes of a number, low byte first. -/
def bytesOfNat : Nat → Nat → List Byte
  | 0, _ => []
  | n + 1, w => BitVec.ofNat 8 w :: bytesOfNat n (w / 256)

/-- The image bytes of an instruction whose low `nbits` bits are `w` and whose further bits are 0. -/
def tableBytes (nbits w : Nat) : List Byte := bytesOfNat 3 (w % 2 ^ nbits)

/-- The instruction read from the bits of a row of the opcode table, at the reference map. -/
def decodeTableWord (nbits w : Nat) : Option Instr :=
  match decodeBytes .reference (tableBytes nbits w) with
  | .ok (i, _) => some i
  | .error _ => none

/-- The word of an instruction under an opcode map (R61, R64). -/
def encode (m : OpcodeMap) (i : Instr) : ProgWord := wordOf (m.code i.cls) i.data

/-- The three image bytes of a word, low byte first (R57). -/
def bytesOfWord (w : ProgWord) : List Byte :=
  [w.extractLsb' 0 8, w.extractLsb' 8 8, w.extractLsb' 16 8]

/-- The image bytes of an instruction. -/
def encodeBytes (m : OpcodeMap) (i : Instr) : List Byte := bytesOfWord (encode m i)

end Sys2Proof
end

