-- ==== Sys2Proof/Machine/State.lean ====
section
/-! DEFINITION. The state of the machine as plain data (10_state.md R20), the reasons a step can stop, and reset (R39). -/

namespace Sys2Proof.Machine

/-- The contents of a word-addressed memory (R47): (index, word) pairs, indices strictly rising, no entry equal to what an
unlisted index reads as (`unlistedWord`). One entry is one whole word: the spec gives no byte addresses (log 6). -/
abbrev Cells (w : Nat) := List (Nat × BitVec w)

/-- The fault kinds of the core with the value each records (R200, R205). -/
inductive FaultRecord where
  /-- Dispatch of a type with no handler; the 8-bit type is recorded (R201). -/
  | unknownOpcode (type : OpType)
  /-- A bus read with a selector outside the defined set. Unreachable: SEL has 4 bits (R202). -/
  | unknownBusSelector (sel : SelCode)
  /-- A fetch with PC at or beyond PROG_LEN; the 16-bit PC is recorded (R203). -/
  | fetchOutOfRange (pc : ProgIndex)
  deriving DecidableEq, Repr

/-- `STATUS` (R36). Only a `running` core takes steps; the other two are left only by reset. -/
inductive Status where
  | running
  | faulted (record : FaultRecord)
  | stopped
  deriving DecidableEq, Repr

/-- Why there is no step. No instruction's meaning answers with one of these: entering a fault or the stop is a next
state with a new STATUS (R205, R216). -/
inductive Fault where
  /-- Raised by `step` for a core whose STATUS is FAULTED: it takes no step until reset (R207). Safe (log 8). -/
  | coreFaulted (record : FaultRecord)
  /-- Raised by `step` for a core whose STATUS is STOPPED: it takes no step until reset (R216). Safe (log 8). -/
  | coreStopped
  deriving DecidableEq, Repr

/-- Instructions without a meaning. -/
inductive Refusal where
  /-- Raised by an arm of `exec` that has no meaning yet; no arm of this model raises it. Safe. -/
  | notModelled (mnemonic : String)
  deriving DecidableEq, Repr

/-- The state of the machine. -/
structure State where
  /-- The launch parameters (R9): the model's own field, written by no step (log 1). -/
  cfg : Config
  /-- `PC`, 16 bits: the index of the next program word to fetch (R21). -/
  pc : ProgIndex
  /-- `RET_ADDR`, 16 bits: the single return-address slot (R24). -/
  retAddr : ProgIndex
  /-- `LIT`, 32 bits: the literal register (R25). -/
  lit : Word
  /-- `SEL`, 4 bits: the bus selector (R26). -/
  sel : SelCode
  /-- `A`, 32 bits: ALU operand (R27). -/
  a : Word
  /-- `B`, 32 bits: ALU operand (R28). -/
  b : Word
  /-- `CARRY`, 1 bit: carry-in flag (R29). -/
  carry : Bool
  /-- `FLAGS`, 32 bits: the ALU-flags latch (R30). -/
  flags : Word
  /-- `CACHE_ADDR`, 32 bits: cache address latch (R33). -/
  cacheAddr : Word
  /-- `CACHE_DATA`, 32 bits: cache data latch (R33). -/
  cacheData : Word
  /-- `CACHE`: the cache array (R33, R41). -/
  cache : Cells 32
  /-- `DRAM_ADDR`, 32 bits: DRAM address latch (R34). -/
  dramAddr : Word
  /-- `DRAM_DATA`, 32 bits: DRAM data latch (R34). -/
  dramData : Word
  /-- `DRAM`: the DRAM array (R34, R42). -/
  dram : Cells 32
  /-- `PROG`: program memory, read only at run time (R35, R40). -/
  prog : Cells 24
  /-- `STATUS`: the run status (R36). -/
  status : Status
  /-- The level of the stop input (R38, R216), held in State because a step is a function of State (log 9). -/
  stopRequested : Bool
  /-- The events the device port has carried, oldest first (R38, R170): an output, the model's own record of it (log 10). -/
  port : List DevEvent
  deriving DecidableEq, Repr

/-- Writes the field `pc` and nothing else. -/
def State.setPc (s : State) (v : ProgIndex) : State := { s with pc := v }

/-- Writes the field `retAddr` and nothing else. -/
def State.setRetAddr (s : State) (v : ProgIndex) : State := { s with retAddr := v }

/-- Writes the field `lit` and nothing else. -/
def State.setLit (s : State) (v : Word) : State := { s with lit := v }

/-- Writes the field `sel` and nothing else. -/
def State.setSel (s : State) (v : SelCode) : State := { s with sel := v }

/-- Writes the field `a` and nothing else. -/
def State.setA (s : State) (v : Word) : State := { s with a := v }

/-- Writes the field `b` and nothing else. -/
def State.setB (s : State) (v : Word) : State := { s with b := v }

/-- Writes the field `carry` and nothing else. -/
def State.setCarry (s : State) (v : Bool) : State := { s with carry := v }

/-- Writes the field `flags` and nothing else. -/
def State.setFlags (s : State) (v : Word) : State := { s with flags := v }

/-- Writes the field `cacheAddr` and nothing else. -/
def State.setCacheAddr (s : State) (v : Word) : State := { s with cacheAddr := v }

/-- Writes the field `cacheData` and nothing else. -/
def State.setCacheData (s : State) (v : Word) : State := { s with cacheData := v }

/-- Writes the field `cache` and nothing else. -/
def State.setCache (s : State) (v : Cells 32) : State := { s with cache := v }

/-- Writes the field `dramAddr` and nothing else. -/
def State.setDramAddr (s : State) (v : Word) : State := { s with dramAddr := v }

/-- Writes the field `dramData` and nothing else. -/
def State.setDramData (s : State) (v : Word) : State := { s with dramData := v }

/-- Writes the field `dram` and nothing else. -/
def State.setDram (s : State) (v : Cells 32) : State := { s with dram := v }

/-- Writes the field `prog` and nothing else. -/
def State.setProg (s : State) (v : Cells 24) : State := { s with prog := v }

/-- Writes the field `status` and nothing else. -/
def State.setStatus (s : State) (v : Status) : State := { s with status := v }

/-- Writes the field `stopRequested` and nothing else. -/
def State.setStop (s : State) (v : Bool) : State := { s with stopRequested := v }

/-- Writes the field `port` and nothing else. -/
def State.setPort (s : State) (v : List DevEvent) : State := { s with port := v }

/-- `RESET_DRAW` (R9): a value for every state element the source gives no reset value for (R39, decisions D10, D11). -/
structure ResetDraw where
  lit       : Word
  a         : Word
  b         : Word
  carry     : Bool
  flags     : Word
  cacheAddr : Word
  cacheData : Word
  cache     : Cells 32
  dramAddr  : Word
  dramData  : Word
  dram      : Cells 32
  prog      : Cells 24
  deriving DecidableEq, Repr

/-- The draw of `State.reset`: zero everywhere. DESIGN CHOICE (log 3, log 4), unsafe: the spec gives no value. -/
def ResetDraw.zero : ResetDraw where
  lit := 0
  a := 0
  b := 0
  carry := false
  flags := 0
  cacheAddr := 0
  cacheData := 0
  cache := []
  dramAddr := 0
  dramData := 0
  dram := []
  prog := []

/-- The machine right after reset under given launch parameters and a given draw (R39, R230, R232): PC 0, RET_ADDR 0, SEL
the code of source LIT, STATUS running, everything else from the draw. The stop input is not asserted and the port has
carried nothing (log 9, log 10). -/
def State.resetWith (cfg : Config) (draw : ResetDraw) : State where
  cfg := cfg
  pc := 0
  retAddr := 0
  lit := draw.lit
  sel := cfg.selectorMap.code .lit
  a := draw.a
  b := draw.b
  carry := draw.carry
  flags := draw.flags
  cacheAddr := draw.cacheAddr
  cacheData := draw.cacheData
  cache := draw.cache
  dramAddr := draw.dramAddr
  dramData := draw.dramData
  dram := draw.dram
  prog := draw.prog
  status := .running
  stopRequested := false
  port := []

/-- The machine right after reset (R39) at the reference parameters (log 2) and the zero draw (log 3, log 4), with no
program loaded (log 5). -/
def State.reset : State := State.resetWith Config.reference ResetDraw.zero

end Sys2Proof.Machine
end

