-- ==== Sys2Proof/Machine/Ops.lean ====
section
/-! DEFINITION. The named operations over memory and registers: the word memories (20_memory.md), the fetch with its
increment and fold (40_dispatch_literal.md R80), the device port (R170), and entering a fault or the stop with reset, the
one way out, beside them (60_exceptions.md R205, R207, R216, R230). -/

namespace Sys2Proof.Machine

/-- What an index that no cell lists reads as: a draw the launch did not name. DESIGN CHOICE (log 4), unsafe. -/
def unlistedWord (w : Nat) : BitVec w := 0#w

/-- The word at an index (R40, R43). -/
def readWord {w : Nat} : Cells w → Nat → BitVec w
  | [], _ => unlistedWord w
  | (j, u) :: rest, i => if i = j then u else readWord rest i

/-- Replaces the word at an index and nothing else (R44), keeping the canonical form. -/
def writeWord {w : Nat} : Cells w → Nat → BitVec w → Cells w
  | [], i, v => if v = unlistedWord w then [] else [(i, v)]
  | (j, u) :: rest, i, v =>
    if i < j then
      if v = unlistedWord w then (j, u) :: rest else (i, v) :: (j, u) :: rest
    else if i = j then
      if v = unlistedWord w then rest else (i, v) :: rest
    else (j, u) :: writeWord rest i v

/-- The canonical form: indices strictly rising, every index below `len`, no entry equal to what an unlisted index
reads as. Equal memories are equal data. -/
def Memory.wf {w : Nat} (len : Nat) (m : Cells w) : Bool :=
  decide (m.Pairwise fun x y => x.1 < y.1) && m.all fun x => decide (x.1 < len) && x.2 != unlistedWord w

/-- `CacheIndex()` (R45). -/
def cacheIndex (s : State) : Nat := s.cacheAddr.toNat % s.cfg.cacheLen

/-- `DramIndex()` (R45). -/
def dramIndex (s : State) : Nat := s.dramAddr.toNat % s.cfg.dramLen

/-- `MemRead(CACHE, CACHE_ADDR mod CACHE_LEN)` (R43, R45, R104). -/
def readCache (s : State) : Word := readWord s.cache (cacheIndex s)

/-- `MemRead(DRAM, DRAM_ADDR mod DRAM_LEN)` (R43, R45, R102). -/
def readDram (s : State) : Word := readWord s.dram (dramIndex s)

/-- `MemWrite(CACHE, CACHE_ADDR mod CACHE_LEN, CACHE_DATA)` (R44, R152). -/
def commitCache (s : State) : State := s.setCache (writeWord s.cache (cacheIndex s) s.cacheData)

/-- `MemWrite(DRAM, DRAM_ADDR mod DRAM_LEN, DRAM_DATA)` (R44, R156). -/
def commitDram (s : State) : State := s.setDram (writeWord s.dram (dramIndex s) s.dramData)

/-- `ProgRead(PC)` where PC is inside program memory, none beyond it (R40, R203). -/
def fetch (s : State) : Option ProgWord :=
  if s.pc.toNat < s.cfg.progLen then some (readWord s.prog s.pc.toNat) else none

/-- The low half of a literal replaced (R82). -/
def foldLow (lit : Word) (d : Imm) : Word := lit.extractLsb' 16 16 ++ d

/-- The high half of a literal replaced (R86). -/
def setHigh (lit : Word) (d : Imm) : Word := d ++ lit.extractLsb' 0 16

/-- What every fetched instruction does before its handler runs (R80): PC moves to the next index modulo 2^16 (R23) and
the immediate is folded into the low half of the literal register (R82). -/
def afterFetch (d : Imm) (s : State) : State := (s.setPc (s.pc + 1)).setLit (foldLow s.lit d)

/-- `Handler(c, data)` at its place in the step (R80): the whole instruction is the increment, the fold and the handler's
own write. No handler faults (R208). -/
def runHandler (d : Imm) (s : State) (handler : State → State) : Host.Outcome State Fault Refusal :=
  .next (handler (afterFetch d s))

/-- `emit Dev(kind, v)`: one event on the device port, no core state (R170). -/
def emit (kind : DeviceKind) (v : Word) (s : State) : State := s.setPort (s.port ++ [⟨kind, v⟩])

/-- Fault entry, `raise Fault(kind, value)`: `STATUS <- FAULTED(kind, value)` and nothing else (R205). -/
def raise (record : FaultRecord) (s : State) : State := s.setStatus (.faulted record)

/-- A fetch at or beyond PROG_LEN: no increment, no fold (R203, R206; decision D9, log 19). -/
def raiseFetchOutOfRange (s : State) : State := raise (.fetchOutOfRange s.pc) s

/-- Dispatch of a word whose type has no handler: after the increment and the fold (R201, R206). -/
def raiseUnknownOpcode (w : ProgWord) (s : State) : State :=
  raise (.unknownOpcode (typeOf w)) (afterFetch (dataOf w) s)

/-- The stop input taken: `STATUS <- STOPPED` and nothing else (R216). -/
def takeStop (s : State) : State := s.setStatus .stopped

/-- Reset of a machine in any state, the only way out of a fault or a stop (R207, R216, R230). PROG is left to the loader;
the launch parameters stay; every other element takes its value of R39 under the draw (log 11). -/
def resetPort (draw : ResetDraw) (s : State) : State := (State.resetWith s.cfg draw).setProg s.prog

/-- The numeric code of a fault kind on the status interface (R200, R205). -/
def faultCode : FaultRecord → Nat
  | .unknownOpcode _ => 1
  | .unknownBusSelector _ => 2
  | .fetchOutOfRange _ => 3

/-- The recorded value of a fault on the status interface (R200, R205). -/
def faultValue : FaultRecord → Nat
  | .unknownOpcode t => t.toNat
  | .unknownBusSelector c => c.toNat
  | .fetchOutOfRange p => p.toNat

/-- The reason there is no step of a core that is not running (R36, R207, R216). -/
def haltReason : Status → Option Fault
  | .running => none
  | .faulted r => some (.coreFaulted r)
  | .stopped => some .coreStopped

end Sys2Proof.Machine
end

