-- ==== Sys2Proof/Machine/Flags.lean ====
section
/-! DEFINITION. 42_comparator_branches.md: the comparator (R120, R121) and what a conditional jump does with it (R129); and
the one flag an instruction computes, the carry-in of SETC (R113). -/

namespace Sys2Proof.Machine

/-- `CMP_OUTCOME_ref`: the latch as a signed 32-bit value compared with zero (R121, decision D4, log 15). -/
def refOutcome (f : Word) : CmpOutcome :=
  if f = 0 then .eq else if f.getLsbD 31 then .lt else .gt

/-- The outcome that a list of entries gives a value, or the outcome of every unlisted value. -/
def listedOutcome (otherwise : CmpOutcome) : List (Word × CmpOutcome) → Word → CmpOutcome
  | [], _ => otherwise
  | (v, o) :: rest, f => if f = v then o else listedOutcome otherwise rest f

/-- `CMP_OUTCOME` (R9, R120). -/
def cmpOutcome : Comparator → Word → CmpOutcome
  | .reference, f => refOutcome f
  | .custom entries otherwise, f => listedOutcome otherwise entries f

/-- The truth of a predicate for an outcome (R120). -/
def predHolds : CmpPred → CmpOutcome → Bool
  | .lt, .lt => true
  | .lt, .eq => false
  | .lt, .gt => false
  | .le, .lt => true
  | .le, .eq => true
  | .le, .gt => false
  | .gt, .lt => false
  | .gt, .eq => false
  | .gt, .gt => true
  | .ge, .lt => false
  | .ge, .eq => true
  | .ge, .gt => true
  | .eq, .lt => false
  | .eq, .eq => true
  | .eq, .gt => false
  | .ne, .lt => true
  | .ne, .eq => false
  | .ne, .gt => true

/-- `Cmp(p)`: a function of FLAGS alone (R120). -/
def cmpHolds (p : CmpPred) (s : State) : Bool := predHolds p (cmpOutcome s.cfg.comparator s.flags)

/-- A conditional jump: PC goes to the immediate when the predicate holds, and otherwise keeps the index of the next
instruction (R129). -/
def runJumpIf (p : CmpPred) (d : Imm) (s : State) : Host.Outcome State Fault Refusal :=
  runHandler d s fun t => t.setPc (if cmpHolds p t then d else t.pc)

/-- The carry-in that a bus value gives: its bit 3 (R29, R113; decision D20, log 23). -/
def carryOfBus (v : Word) : Bool := v.getLsbD 3

end Sys2Proof.Machine
end

