-- ==== Sys2Proof/Machine/Operands.lean ====
section
/-! DEFINITION. 41_bus_alu.md: the bus, the one operand form of the machine, as a pure function of the state (R100), with
the combinational ALU (R105 to R108). -/

namespace Sys2Proof.Machine

/-- `(A << 1)[31:0]` (R105). -/
def aluShl (a : Word) : Word := a <<< (1 : Nat)

/-- `A >> 1`, logical (R106, decision D17, log 22). -/
def aluShr (a : Word) : Word := a >>> (1 : Nat)

/-- `(A + B + zext_32(CARRY)) mod 2^32` (R108). -/
def aluSum (a b : Word) (carry : Bool) : Word := a + b + (BitVec.ofBool carry).zeroExtend 32

/-- The value of one bus source (R100 to R108). -/
def sourceValue (src : BusSource) (s : State) : Word :=
  match src with
  | .lit => s.lit
  | .state => s.lit
  | .dramData => readDram s
  | .dramAddr => s.dramAddr
  | .cacheData => readCache s
  | .shl => aluShl s.a
  | .shr => aluShr s.a
  | .and => s.a &&& s.b
  | .or => s.a ||| s.b
  | .xor => s.a ^^^ s.b
  | .sum => aluSum s.a s.b s.carry
  | .dev0 => s.lit
  | .dev1 => s.lit
  | .dev2 => s.lit
  | .dev3 => s.lit
  | .dev4 => s.lit

/-- The source that SEL selects (R26, R100). -/
def busSource (s : State) : BusSource := s.cfg.selectorMap.source s.sel

/-- `Bus()` (R100). -/
def bus (s : State) : Word := sourceValue (busSource s) s

/-- A handler that reads the bus: once, after the increment and the fold and before its own write (R83). -/
def runBusHandler (d : Imm) (s : State) (handler : Word → State → State) : Host.Outcome State Fault Refusal :=
  runHandler d s fun t => handler (bus t) t

/-- A device instruction: the bus value as one event on the device port, no core state (R170). -/
def runDevice (kind : DeviceKind) (d : Imm) (s : State) : Host.Outcome State Fault Refusal :=
  runBusHandler d s (emit kind)

end Sys2Proof.Machine
end

