-- ==== Sys2Proof/Machine/Control.lean ====
section
/-! DEFINITION. Control flow: the six conditional jumps (42_comparator_branches.md) and JMP, CALL, RET
(43_control_flow.md). No transfer has a delay slot (R143) and no target is checked before the next fetch (R144). -/

namespace Sys2Proof.Machine

/-- JMP: `PC <- data` (R140). -/
def execJmp (d : Imm) (s : State) : Host.Outcome State Fault Refusal :=
  runHandler d s fun t => t.setPc d

/-- JLT: to `data` if less-than (R123). -/
def execJlt (d : Imm) (s : State) : Host.Outcome State Fault Refusal := runJumpIf .lt d s

/-- JLE: to `data` if less-or-equal (R124). -/
def execJle (d : Imm) (s : State) : Host.Outcome State Fault Refusal := runJumpIf .le d s

/-- JGT: to `data` if greater-than (R125). -/
def execJgt (d : Imm) (s : State) : Host.Outcome State Fault Refusal := runJumpIf .gt d s

/-- JGE: to `data` if greater-or-equal (R126). -/
def execJge (d : Imm) (s : State) : Host.Outcome State Fault Refusal := runJumpIf .ge d s

/-- JEQ: to `data` if equal (R127). -/
def execJeq (d : Imm) (s : State) : Host.Outcome State Fault Refusal := runJumpIf .eq d s

/-- JNE: to `data` if not equal (R128). -/
def execJne (d : Imm) (s : State) : Host.Outcome State Fault Refusal := runJumpIf .ne d s

/-- CALL: the return slot takes the index of the next instruction, PC the low 16 bits of the bus, read before either
write (R141, decision D6, log 17). -/
def execCall (d : Imm) (s : State) : Host.Outcome State Fault Refusal :=
  runBusHandler d s fun v t => (t.setRetAddr t.pc).setPc (v.extractLsb' 0 16)

/-- RET: `PC <- RET_ADDR`; the slot keeps its value (R142). -/
def execRet (d : Imm) (s : State) : Host.Outcome State Fault Refusal :=
  runHandler d s fun t => t.setPc t.retAddr

end Sys2Proof.Machine
end

