-- ==== Sys2Proof/Machine/Devices.lean ====
section
/-! DEFINITION. The device instructions of 45_devices.md: each presents `Dev(kind, Bus())` on the device port and changes
no core state (R170, decision D13, log 21). What a device does with an event is outside the block (R4). -/

namespace Sys2Proof.Machine

/-- TCOLOR: `emit Dev(TEXT_COLOR, Bus())` (R171). -/
def execTcolor (d : Imm) (s : State) : Host.Outcome State Fault Refusal := runDevice .textColor d s

/-- TCHAR: `emit Dev(TEXT_CHAR, Bus())` (R172). -/
def execTchar (d : Imm) (s : State) : Host.Outcome State Fault Refusal := runDevice .textChar d s

/-- TCURSOR: `emit Dev(TEXT_CURSOR, Bus())` (R173). -/
def execTcursor (d : Imm) (s : State) : Host.Outcome State Fault Refusal := runDevice .textCursor d s

/-- UCFG: `emit Dev(UART_CONFIG, Bus())` (R174). -/
def execUcfg (d : Imm) (s : State) : Host.Outcome State Fault Refusal := runDevice .uartConfig d s

/-- UTX: `emit Dev(UART_TX, Bus())` (R175). -/
def execUtx (d : Imm) (s : State) : Host.Outcome State Fault Refusal := runDevice .uartTx d s

/-- RTC: `emit Dev(RTC, Bus())` (R176). -/
def execRtc (d : Imm) (s : State) : Host.Outcome State Fault Refusal := runDevice .rtc d s

/-- KBD: `emit Dev(KEYBOARD, Bus())` (R177). -/
def execKbd (d : Imm) (s : State) : Host.Outcome State Fault Refusal := runDevice .keyboard d s

/-- TIMER: `emit Dev(TIMER, Bus())` (R178). -/
def execTimer (d : Imm) (s : State) : Host.Outcome State Fault Refusal := runDevice .timer d s

/-- SPKR: `emit Dev(SPEAKER, Bus())` (R179). -/
def execSpkr (d : Imm) (s : State) : Host.Outcome State Fault Refusal := runDevice .speaker d s

/-- VPIX: `emit Dev(VGA_PIXEL_MODE, Bus())` (R180). -/
def execVpix (d : Imm) (s : State) : Host.Outcome State Fault Refusal := runDevice .vgaPixelMode d s

/-- VBLINK: `emit Dev(VGA_BLINK_MODE, Bus())` (R181). -/
def execVblink (d : Imm) (s : State) : Host.Outcome State Fault Refusal := runDevice .vgaBlinkMode d s

/-- SERDRV: `emit Dev(SERIAL_DRIVE, Bus())` (R182). -/
def execSerdrv (d : Imm) (s : State) : Host.Outcome State Fault Refusal := runDevice .serialDrive d s

end Sys2Proof.Machine
end

