-- ==== Sys2Proof/Machine/Literal.lean ====
section
/-! DEFINITION. The literal and selector instructions of 40_dispatch_literal.md: LITL, LITH, BUS. -/

namespace Sys2Proof.Machine

/-- LITL: nothing beyond the fold (R85, decision D5, log 16). -/
def execLitl (d : Imm) (s : State) : Host.Outcome State Fault Refusal :=
  runHandler d s fun t => t

/-- LITH: `LIT[31:16] <- data` (R86). -/
def execLith (d : Imm) (s : State) : Host.Outcome State Fault Refusal :=
  runHandler d s fun t => t.setLit (setHigh t.lit d)

/-- BUS: `SEL <- data[3:0]`; the bus is not read (R87, decision D3, log 14). -/
def execBus (d : Imm) (s : State) : Host.Outcome State Fault Refusal :=
  runHandler d s fun t => t.setSel (d.extractLsb' 0 4)

end Sys2Proof.Machine
end

