-- ==== Sys2Proof/Machine/Loads.lean ====
section
/-! DEFINITION. The loads from the bus: SETA, SETB, SETC (41_bus_alu.md) and SETF (42_comparator_branches.md). -/

namespace Sys2Proof.Machine

/-- SETA: `A <- Bus()` (R111). -/
def execSeta (d : Imm) (s : State) : Host.Outcome State Fault Refusal :=
  runBusHandler d s fun v t => t.setA v

/-- SETB: `B <- Bus()` (R112). -/
def execSetb (d : Imm) (s : State) : Host.Outcome State Fault Refusal :=
  runBusHandler d s fun v t => t.setB v

/-- SETC: `CARRY <- Bus()[3]` (R113). -/
def execSetc (d : Imm) (s : State) : Host.Outcome State Fault Refusal :=
  runBusHandler d s fun v t => t.setCarry (carryOfBus v)

/-- SETF: `FLAGS <- Bus()` (R122). -/
def execSetf (d : Imm) (s : State) : Host.Outcome State Fault Refusal :=
  runBusHandler d s fun v t => t.setFlags v

end Sys2Proof.Machine
end

