-- ==== Sys2Proof/Machine/MemoryOps.lean ====
section
/-! DEFINITION. The cache and DRAM instructions of 44_memory_ops.md: set-address, set-data-latch, commit-write, and
increment-address for DRAM. Reads are bus sources. -/

namespace Sys2Proof.Machine

/-- CADDR: `CACHE_ADDR <- Bus()`, all 32 bits (R150, decision D7, log 18). -/
def execCaddr (d : Imm) (s : State) : Host.Outcome State Fault Refusal :=
  runBusHandler d s fun v t => t.setCacheAddr v

/-- CDATA: `CACHE_DATA <- Bus()`; the array is not written (R151). -/
def execCdata (d : Imm) (s : State) : Host.Outcome State Fault Refusal :=
  runBusHandler d s fun v t => t.setCacheData v

/-- CWR: the data latch to the word the address latch names; the bus is not read (R152). -/
def execCwr (d : Imm) (s : State) : Host.Outcome State Fault Refusal :=
  runHandler d s commitCache

/-- DADDR: `DRAM_ADDR <- Bus()`, all 32 bits (R153, decision D7, log 18). -/
def execDaddr (d : Imm) (s : State) : Host.Outcome State Fault Refusal :=
  runBusHandler d s fun v t => t.setDramAddr v

/-- DINC: `DRAM_ADDR <- (DRAM_ADDR + 1) mod 2^32`; the bus is not read (R154, decision D7, log 18). -/
def execDinc (d : Imm) (s : State) : Host.Outcome State Fault Refusal :=
  runHandler d s fun t => t.setDramAddr (t.dramAddr + 1)

/-- DDATA: `DRAM_DATA <- Bus()`; the array is not written (R155). -/
def execDdata (d : Imm) (s : State) : Host.Outcome State Fault Refusal :=
  runBusHandler d s fun v t => t.setDramData v

/-- DWR: the data latch to the word the address latch names; the bus is not read (R156). -/
def execDwr (d : Imm) (s : State) : Host.Outcome State Fault Refusal :=
  runHandler d s commitDram

end Sys2Proof.Machine
end

