-- ==== Sys2Proof/Machine/Dispatch.lean ====
section
/-! DEFINITION. The dispatch: exactly one handler runs per instruction, chosen by its class alone (40_dispatch_literal.md R81). -/

namespace Sys2Proof.Machine

def exec (i : Instr) (s : State) : Host.Outcome State Fault Refusal :=
  match i with
  | .litl d => Sys2Proof.Machine.execLitl d s
  | .lith d => Sys2Proof.Machine.execLith d s
  | .bus d => Sys2Proof.Machine.execBus d s
  | .seta d => Sys2Proof.Machine.execSeta d s
  | .setb d => Sys2Proof.Machine.execSetb d s
  | .setc d => Sys2Proof.Machine.execSetc d s
  | .setf d => Sys2Proof.Machine.execSetf d s
  | .jmp d => Sys2Proof.Machine.execJmp d s
  | .jlt d => Sys2Proof.Machine.execJlt d s
  | .jle d => Sys2Proof.Machine.execJle d s
  | .jgt d => Sys2Proof.Machine.execJgt d s
  | .jge d => Sys2Proof.Machine.execJge d s
  | .jeq d => Sys2Proof.Machine.execJeq d s
  | .jne d => Sys2Proof.Machine.execJne d s
  | .call d => Sys2Proof.Machine.execCall d s
  | .ret d => Sys2Proof.Machine.execRet d s
  | .caddr d => Sys2Proof.Machine.execCaddr d s
  | .cdata d => Sys2Proof.Machine.execCdata d s
  | .cwr d => Sys2Proof.Machine.execCwr d s
  | .daddr d => Sys2Proof.Machine.execDaddr d s
  | .dinc d => Sys2Proof.Machine.execDinc d s
  | .ddata d => Sys2Proof.Machine.execDdata d s
  | .dwr d => Sys2Proof.Machine.execDwr d s
  | .tcolor d => Sys2Proof.Machine.execTcolor d s
  | .tchar d => Sys2Proof.Machine.execTchar d s
  | .tcursor d => Sys2Proof.Machine.execTcursor d s
  | .ucfg d => Sys2Proof.Machine.execUcfg d s
  | .utx d => Sys2Proof.Machine.execUtx d s
  | .rtc d => Sys2Proof.Machine.execRtc d s
  | .kbd d => Sys2Proof.Machine.execKbd d s
  | .timer d => Sys2Proof.Machine.execTimer d s
  | .spkr d => Sys2Proof.Machine.execSpkr d s
  | .vpix d => Sys2Proof.Machine.execVpix d s
  | .vblink d => Sys2Proof.Machine.execVblink d s
  | .serdrv d => Sys2Proof.Machine.execSerdrv d s

end Sys2Proof.Machine
end

