-- ==== Sys2Proof/Machine/Load.lean ====
section
/-! DEFINITION. The program load, which the host makes before execution begins (20_memory.md R57, 60_exceptions.md R204,
decision D16; log 20): the image format, the loader, and a launch from reset. -/

namespace Sys2Proof.Machine

/-- The words of an image: three bytes a word, low byte first; a trailing partial word is dropped (R57). -/
def wordsOfImage : List Byte → List ProgWord
  | b0 :: b1 :: b2 :: rest => wordOfBytes b0 b1 b2 :: wordsOfImage rest
  | _ => []

/-- Words stored at consecutive indices. -/
def storeWords {w : Nat} (m : Cells w) (first : Nat) : List (BitVec w) → Cells w
  | [] => m
  | v :: rest => storeWords (writeWord m first v) (first + 1) rest

/-- `ProgramLoadFailure`, before execution begins; no core fault (R204). -/
inductive LoadFailure where
  /-- The image is missing or unreadable (R204). -/
  | unreadable
  /-- The image has more than PROG_LEN words (R57, R204). -/
  | tooLong
  deriving DecidableEq, Repr

/-- Loads an image, or none where the host could not read one, into program memory: word k at index k, the other words
and the rest of the state as they are (R35, R57). -/
def loadImage (image : Option (List Byte)) (s : State) : Except LoadFailure State :=
  match image with
  | none => .error .unreadable
  | some bytes =>
    let words := wordsOfImage bytes
    if words.length ≤ s.cfg.progLen then .ok (s.setProg (storeWords s.prog 0 words)) else .error .tooLong

/-- A launch: reset under the parameters and the draw, then the program load (R9, R39, R57, R231). -/
def launch (cfg : Config) (draw : ResetDraw) (image : Option (List Byte)) : Except LoadFailure State :=
  loadImage image (State.resetWith cfg draw)

end Sys2Proof.Machine
end

