-- ==== Sys2Proof/Machine/Step.lean ====
section
/-! DEFINITION. One step of the core (40_dispatch_literal.md R80), and where the next instruction is placed. -/

namespace Sys2Proof.Machine

/-- `Step()` (R80), its checks in the order of R208: no step unless STATUS is RUNNING; the stop request; the fetch range;
the dispatch. The increment and the fold are in the meaning of each instruction (`runHandler`) and in
`raiseUnknownOpcode` (log 7). -/
def step (s : State) : Host.Outcome State Fault Refusal :=
  match haltReason s.status with
  | some reason => .fault reason
  | none =>
    if s.stopRequested then .next (takeStop s)
    else
      match fetch s with
      | none => .next (raiseFetchOutOfRange s)
      | some w =>
        match decodeWord s.cfg.opcodeMap w with
        | .ok i => exec i s
        | .error _ => .next (raiseUnknownOpcode w s)

/-- One step with the stop input at a given level (R216: the host may assert it before any step). -/
def stepUnder (stop : Bool) (s : State) : Host.Outcome State Fault Refusal := step (s.setStop stop)

/-- The state with an instruction of the opcode table placed where `step` fetches next: the word at PC, PROG_LEN large
enough to hold that index, the reference opcode map that the table's bits are numbered by, and a core that takes its next
step. It stands for the program load (log 5). -/
def State.withFetchWord (s : State) (nbits w : Nat) : State :=
  { s with
    prog := writeWord s.prog s.pc.toNat (BitVec.ofNat 24 (w % 2 ^ nbits))
    cfg := { s.cfg with progLen := max s.cfg.progLen (s.pc.toNat + 1), opcodeMap := .reference }
    status := .running
    stopRequested := false }

end Sys2Proof.Machine
end

