-- ==== Sys2Proof/Machine/Assembler.lean ====
section
/-! DEFINITION. The spec's assembler notation (30_encoding.md R68, R69; decision D15, log 27) as abstract lines: an optional
label, then a class with an operand or a pseudo-instruction. The text form of a line is notation and is not parsed. -/

namespace Sys2Proof.Machine

/-- The operand of a line (R68). -/
inductive AsmOperand where
  /-- Omitted: 0. -/
  | omitted
  /-- A number from 0 to 0xFFFF. -/
  | number (n : Nat)
  /-- A label: the index in PROG of the line it stands before. -/
  | label (name : String)
  /-- A bus-source name, for BUS: its code. -/
  | source (src : BusSource)
  /-- `.`: the index of the line's own instruction. -/
  | here
  deriving DecidableEq, Repr

/-- What a line assembles: an instruction, or one of the three pseudo-instructions (R69). -/
inductive AsmItem where
  | op (c : OpClass) (operand : AsmOperand)
  | nop
  | halt
  | wide (c : OpClass) (v : Word)
  deriving DecidableEq, Repr

/-- One line (R68). -/
structure AsmLine where
  label : Option String
  item  : AsmItem
  deriving DecidableEq, Repr

/-- Why a line has no word. -/
inductive AsmError where
  | numberTooLarge (n : Nat)
  | unknownLabel (name : String)
  | sourceNameOutsideBus (c : OpClass)
  deriving DecidableEq, Repr

/-- How many instructions an item expands to (R69). -/
def AsmItem.size : AsmItem → Nat
  | .op _ _ => 1
  | .nop => 1
  | .halt => 1
  | .wide _ _ => 2

/-- The PROG index of every label (R68), the first line at the given index. -/
def labelsFrom : Nat → List AsmLine → List (String × Nat)
  | _, [] => []
  | k, line :: rest =>
    match line.label with
    | some name => (name, k) :: labelsFrom (k + line.item.size) rest
    | none => labelsFrom (k + line.item.size) rest

/-- The `data` of an operand on a line at index `k` (R68). -/
def operandData (m : SelectorMap) (labels : List (String × Nat)) (k : Nat) (c : OpClass) :
    AsmOperand → Except AsmError Imm
  | .omitted => .ok 0
  | .number n => if n < 65536 then .ok (BitVec.ofNat 16 n) else .error (.numberTooLarge n)
  | .label name =>
    match labels.lookup name with
    | some n => .ok (BitVec.ofNat 16 n)
    | none => .error (.unknownLabel name)
  | .source src =>
    if c = .bus then .ok ((m.code src).zeroExtend 16) else .error (.sourceNameOutsideBus c)
  | .here => .ok (BitVec.ofNat 16 k)

/-- The instructions of an item at index `k`: NOP is `LITL 0`, HALT is `JMP .`, `WIDE op, v` is `LITH v[31:16]` then
`op v[15:0]` (R69). -/
def expandItem (m : SelectorMap) (labels : List (String × Nat)) (k : Nat) : AsmItem → Except AsmError (List Instr)
  | .op c operand =>
    match operandData m labels k c operand with
    | .ok d => .ok [c.instr d]
    | .error e => .error e
  | .nop => .ok [.litl 0]
  | .halt => .ok [.jmp (BitVec.ofNat 16 k)]
  | .wide c v => .ok [.lith (v.extractLsb' 16 16), c.instr (v.extractLsb' 0 16)]

/-- The instructions of a list of lines, the first at index `k`. -/
def expandFrom (m : SelectorMap) (labels : List (String × Nat)) : Nat → List AsmLine → Except AsmError (List Instr)
  | _, [] => .ok []
  | k, line :: rest =>
    match expandItem m labels k line.item with
    | .error e => .error e
    | .ok is =>
      match expandFrom m labels (k + line.item.size) rest with
      | .error e => .error e
      | .ok js => .ok (is ++ js)

/-- The program words of a list of lines: `OPCODE_MAP(class) ++ data` each (R68). -/
def assemble (cfg : Config) (lines : List AsmLine) : Except AsmError (List ProgWord) :=
  match expandFrom cfg.selectorMap (labelsFrom 0 lines) 0 lines with
  | .ok is => .ok (is.map (encode cfg.opcodeMap))
  | .error e => .error e

/-- The image bytes of program words (R57). -/
def imageOfWords (words : List ProgWord) : List Byte := words.flatMap bytesOfWord

end Sys2Proof.Machine
end

