-- ==== Sys2Proof/Safety.lean ====
section
/-! DEFINITION. The terms claims are made in: the states whose next step executes a word, the invariant of the machine, and
what counts as a safe run. -/

namespace Sys2Proof.Machine

/-- The next step fetches and dispatches: the core is running, no stop is requested, PC is inside program memory (R80). -/
def State.Fetching (s : State) : Prop :=
  s.status = .running ∧ s.stopRequested = false ∧ s.pc.toNat < s.cfg.progLen

/-- The program word at PC. -/
def State.nextWord (s : State) : ProgWord := readWord s.prog s.pc.toNat

/-- The next step executes the instruction `i`: it fetches, and the word at PC decodes to `i`. -/
def State.Executes (s : State) (i : Instr) : Prop :=
  s.Fetching ∧ decodeWord s.cfg.opcodeMap s.nextWord = .ok i

/-- What a recorded fault says of the state (R201, R203, R206): a fetch fault leaves PC beyond program memory; an unknown
opcode leaves PC one past the faulting word, that word's type without a handler and its data folded; the selector fault
does not occur (R202). -/
def State.FaultConsistent (s : State) : Prop :=
  match s.status with
  | .running => True
  | .stopped => True
  | .faulted (.fetchOutOfRange p) => p = s.pc ∧ s.cfg.progLen ≤ p.toNat
  | .faulted (.unknownBusSelector _) => False
  | .faulted (.unknownOpcode t) =>
    (∀ c : OpClass, s.cfg.opcodeMap.code c ≠ t) ∧ (s.pc - 1).toNat < s.cfg.progLen ∧
      typeOf (readWord s.prog (s.pc - 1).toNat) = t ∧
      s.lit.extractLsb' 0 16 = dataOf (readWord s.prog (s.pc - 1).toNat)

/-- The invariant: the launch parameters meet R9, the three memories have their canonical form inside their lengths, and a
recorded fault is consistent with the state. -/
def State.Inv (s : State) : Prop :=
  s.cfg.wf = true ∧ Memory.wf s.cfg.cacheLen s.cache = true ∧ Memory.wf s.cfg.dramLen s.dram = true ∧
    Memory.wf s.cfg.progLen s.prog = true ∧ s.FaultConsistent

/-- A draw whose memory contents are canonical for the given parameters. -/
def ResetDraw.wf (cfg : Config) (draw : ResetDraw) : Bool :=
  Memory.wf cfg.cacheLen draw.cache && Memory.wf cfg.dramLen draw.dram && Memory.wf cfg.progLen draw.prog

/-- `n` steps lead from `s` to `t`. -/
def ReachesIn (n : Nat) (s t : State) : Prop := Host.Core.run Sys2Proof.core n s = .next t

/-- Some number of steps leads from `s` to `t`. -/
def Reaches (s t : State) : Prop := ∃ n, ReachesIn n s t

/-- A safe run: `n` steps from `s` exist and end in a core that has not faulted (R84: a run ends only in FAULTED or
STOPPED). -/
def SafeFor (n : Nat) (s : State) : Prop :=
  ∃ t, ReachesIn n s t ∧ ∀ r, t.status ≠ .faulted r

/-- Instructions executed in the order of a list, wherever PC stands: program order without the fetches. -/
def execAll : List Instr → State → Host.Outcome State Fault Refusal
  | [], s => .next s
  | i :: rest, s =>
    match exec i s with
    | .next t => execAll rest t
    | .fault f => .fault f
    | .refused r => .refused r

end Sys2Proof.Machine
end

