-- ==== Sys2Proof/Certificates/Slice0/Obligations.lean ====
section
/-! DEFINITION. The statements for the provers. The helper definitions of Sys2Proof.Spec write the spec's arithmetic over
natural numbers, apart from the model's own operations, so that a statement of a result does not repeat a definition. -/

namespace Sys2Proof.Spec

open Sys2Proof.Machine

/-- `(PC + 1) mod 2^16` (10_state.md R23). -/
def nextIndex (s : State) : ProgIndex := BitVec.ofNat 16 ((s.pc.toNat + 1) % 65536)

/-- `LIT[31:16] ++ data` (40_dispatch_literal.md R82). -/
def folded (s : State) (d : Imm) : Word := BitVec.ofNat 32 (s.lit.toNat / 65536 * 65536 + d.toNat)

/-- The state in which a handler runs: PC incremented, the immediate folded, nothing else changed (R80). -/
def fetched (d : Imm) (s : State) : State := { s with pc := nextIndex s, lit := folded s d }

/-- The bus value a handler sees in an instruction with immediate `d` that starts in `s`, from the fields of `s`
(41_bus_alu.md R100 to R108). -/
def busAt (s : State) (d : Imm) : Word :=
  match s.cfg.selectorMap.source s.sel with
  | .lit => folded s d
  | .state => folded s d
  | .dev0 => folded s d
  | .dev1 => folded s d
  | .dev2 => folded s d
  | .dev3 => folded s d
  | .dev4 => folded s d
  | .dramData => readWord s.dram (s.dramAddr.toNat % s.cfg.dramLen)
  | .dramAddr => s.dramAddr
  | .cacheData => readWord s.cache (s.cacheAddr.toNat % s.cfg.cacheLen)
  | .shl => BitVec.ofNat 32 (2 * s.a.toNat)
  | .shr => BitVec.ofNat 32 (s.a.toNat / 2)
  | .and => BitVec.ofFnLE fun i => s.a[i] && s.b[i]
  | .or => BitVec.ofFnLE fun i => s.a[i] || s.b[i]
  | .xor => BitVec.ofFnLE fun i => xor s.a[i] s.b[i]
  | .sum => BitVec.ofNat 32 (s.a.toNat + s.b.toNat + s.carry.toNat)

/-- The outcome of the comparator on the flags latch (42_comparator_branches.md R120). -/
def outcome (s : State) : CmpOutcome := cmpOutcome s.cfg.comparator s.flags

/-- The classes that write PC beyond the increment of the fetch in `s`: JMP, CALL, RET, and a conditional jump that is
taken (the PC row of 10_state.md R20; 42_comparator_branches.md R123 to R128). -/
def transfers (s : State) (c : OpClass) : Prop :=
  c = .jmp ∨ c = .call ∨ c = .ret ∨
  (c = .jlt ∧ outcome s = .lt) ∨ (c = .jle ∧ (outcome s = .lt ∨ outcome s = .eq)) ∨
  (c = .jgt ∧ outcome s = .gt) ∨ (c = .jge ∧ (outcome s = .gt ∨ outcome s = .eq)) ∨
  (c = .jeq ∧ outcome s = .eq) ∨ (c = .jne ∧ (outcome s = .lt ∨ outcome s = .gt))

/-- The classes of the device instructions (45_devices.md R171 to R182). -/
def deviceClasses : List OpClass :=
  [.tcolor, .tchar, .tcursor, .ucfg, .utx, .rtc, .kbd, .timer, .spkr, .vpix, .vblink, .serdrv]

end Sys2Proof.Spec

open Sys2Proof
open Sys2Proof.Machine
open Sys2Proof.Spec

/-! ### Encoding -/

/-- R61, R62: the two fields are bits 23:16 and 15:0, and splitting and joining a word round-trips. -/
def Obligations.FieldsPartitionWord : Prop :=
  (∀ w : ProgWord, (typeOf w).toNat = w.toNat / 65536 ∧ (dataOf w).toNat = w.toNat % 65536 ∧
    wordOf (typeOf w) (dataOf w) = w) ∧
  ∀ (t : OpType) (d : Imm), typeOf (wordOf t d) = t ∧ dataOf (wordOf t d) = d

/-- Decoding an encoded instruction gives it back, for every well-formed opcode map, every instruction and every
immediate, as a word and as image bytes with anything after them (R57, R61, R64). -/
def Obligations.DecodeOfEncodeIsIdentity : Prop :=
  ∀ (m : OpcodeMap) (i : Instr), m.wf = true → i.wf = true →
    decodeWord m (encode m i) = .ok i ∧
    ∀ rest : List Byte, decodeBytes m (encodeBytes m i ++ rest) = .ok (i, rest)

/-- Each word has at most one meaning: a decoded word, or byte sequence, is the encoding of what it decodes to. -/
def Obligations.EncodeOfDecodeIsIdentity : Prop :=
  (∀ (m : OpcodeMap) (w : ProgWord) (i : Instr), decodeWord m w = .ok i → encode m i = w) ∧
  ∀ (m : OpcodeMap) (bytes rest : List Byte) (i : Instr),
    decodeBytes m bytes = .ok (i, rest) → bytes = encodeBytes m i ++ rest

/-- A word is rejected, by the name of its type, exactly when no class has its type; at the reference map these are the
types 0x23 to 0xFF. The reference values are the spec's own choice (decision D1, log 12). -/
def Obligations.WordRejectedIffNoHandler : Prop :=
  (∀ (m : OpcodeMap) (w : ProgWord),
    (decodeWord m w = .error (.unknownOpcode (typeOf w)) ↔ ∀ c, m.code c ≠ typeOf w) ∧
    ((∃ i, decodeWord m w = .ok i) ↔ ∃ c, m.code c = typeOf w)) ∧
  ∀ t : OpType, (∀ c, OpcodeMap.reference.code c ≠ t) ↔ 0x23 ≤ t.toNat

/-- Words written out from the encodings of R64, one for each family, decode to their instructions at the reference map
(the spec's own choice, decision D1, log 12). -/
def Obligations.SampleWordsDecode : Prop :=
  decodeWord .reference 0x011234 = .ok (.lith 0x1234) ∧
  decodeWord .reference 0x02000A = .ok (.bus 0x000A) ∧
  decodeWord .reference 0x030003 = .ok (.seta 0x0003) ∧
  decodeWord .reference 0x0D0006 = .ok (.jne 0x0006) ∧
  decodeWord .reference 0x0E0005 = .ok (.call 0x0005) ∧
  decodeWord .reference 0x160000 = .ok (.dwr 0x0000) ∧
  decodeWord .reference 0x1F01B8 = .ok (.spkr 0x01B8) ∧
  decodeWord .reference 0x231234 = .error (.unknownOpcode 0x23)

/-- The source that each of the 16 codes names at the reference selector map, in the order of the table of R67, and the two
directions of that map undo each other; after BUS with immediate d the selected source is the one at place d mod 16 of that
table. The codes, the five device placeholders among them, are the spec's own choice (decisions D2 and D18, log 13), and so
is the immediate as the masked value (decision D3, log 14). -/
def Obligations.ReferenceSelectorMapNamesEachSource : Prop :=
  (SelectorMap.source .reference 0 = .lit ∧ SelectorMap.source .reference 1 = .state ∧
    SelectorMap.source .reference 2 = .dramData ∧ SelectorMap.source .reference 3 = .dramAddr ∧
    SelectorMap.source .reference 4 = .cacheData ∧ SelectorMap.source .reference 5 = .shl ∧
    SelectorMap.source .reference 6 = .shr ∧ SelectorMap.source .reference 7 = .and ∧
    SelectorMap.source .reference 8 = .or ∧ SelectorMap.source .reference 9 = .xor ∧
    SelectorMap.source .reference 10 = .sum ∧ SelectorMap.source .reference 11 = .dev0 ∧
    SelectorMap.source .reference 12 = .dev1 ∧ SelectorMap.source .reference 13 = .dev2 ∧
    SelectorMap.source .reference 14 = .dev3 ∧ SelectorMap.source .reference 15 = .dev4) ∧
  (∀ c : SelCode, SelectorMap.code .reference (SelectorMap.source .reference c) = c) ∧
  (∀ src : BusSource, SelectorMap.source .reference (SelectorMap.code .reference src) = src) ∧
  ∀ (s : State) (d : Imm), s.cfg.selectorMap = .reference →
    ∃ t, exec (.bus d) s = .next t ∧
      [BusSource.lit, .state, .dramData, .dramAddr, .cacheData, .shl, .shr, .and, .or, .xor, .sum,
        .dev0, .dev1, .dev2, .dev3, .dev4][d.toNat % 16]? = some (busSource t)

/-! ### The step -/

/-- Where the step fetches a word that decodes to an instruction, it is that instruction's meaning and nothing around it:
the increment and the fold are part of every meaning (log 7). -/
def Obligations.StepRunsDecodedInstruction : Prop :=
  ∀ (s : State) (i : Instr), s.Executes i → step s = exec i s

/-- An instruction placed by `withFetchWord` is what the next step runs, in every state whose program memory is canonical
(the model's own interface, log 5). -/
def Obligations.PlacedInstructionRunsNext : Prop :=
  ∀ (s : State) (w : Nat) (i : Instr) (len : Nat), Memory.wf len s.prog = true → decodeTableWord 24 w = some i →
    step (s.withFetchWord 24 w) = exec i (s.withFetchWord 24 w)

/-- R208, R82: no handler faults. Every instruction completes in every state, its immediate in the low half of the literal
register, the run status, the parameters, program memory and the stop input as they were. That the parameters and the level
of the stop input stand in the state, and that no instruction changes them, is the model's choice (logs 1 and 9). -/
def Obligations.EveryInstructionCompletesAndFolds : Prop :=
  ∀ (i : Instr) (s : State), ∃ t, exec i s = .next t ∧ t.lit.toNat % 65536 = i.data.toNat ∧
    t.status = s.status ∧ t.cfg = s.cfg ∧ t.prog = s.prog ∧ t.stopRequested = s.stopRequested

/-- R201: a type without a handler faults after the increment and the fold, recording and reporting the type; no step
follows. -/
def Obligations.UnknownOpcodeFaultsAfterFold : Prop :=
  ∀ s : State, s.Fetching → (∀ c, s.cfg.opcodeMap.code c ≠ typeOf s.nextWord) →
    step s = .next { fetched (dataOf s.nextWord) s with status := .faulted (.unknownOpcode (typeOf s.nextWord)) } ∧
    faultValue (.unknownOpcode (typeOf s.nextWord)) = s.nextWord.toNat / 65536 ∧
    ∀ t u, step s = .next t → step t ≠ .next u

/-- A fetch at or beyond PROG_LEN faults with the PC and changes nothing else; with PROG_LEN 65536 no PC is beyond it; the
codes of the fault kinds. The fault and the codes are the spec's own choice (decisions D9 and D12, logs 19 and 8). -/
def Obligations.FetchBeyondProgramFaults : Prop :=
  (∀ s : State, s.status = .running → s.stopRequested = false → s.cfg.progLen ≤ s.pc.toNat →
    step s = .next { s with status := .faulted (.fetchOutOfRange s.pc) } ∧
    faultCode (.fetchOutOfRange s.pc) = 3 ∧ faultValue (.fetchOutOfRange s.pc) = s.pc.toNat) ∧
  (∀ s : State, s.cfg.progLen = 65536 → s.status = .running → s.stopRequested = false → s.Fetching) ∧
  (∀ t : OpType, faultCode (.unknownOpcode t) = 1) ∧ ∀ c : SelCode, faultCode (.unknownBusSelector c) = 2

/-- The stop input is taken before the fetch and its range check, and changes nothing but STATUS. The stop input is the
spec's own choice (decision D14, log 9). -/
def Obligations.StopIsTakenBeforeTheFetch : Prop :=
  ∀ s : State, s.status = .running →
    (s.stopRequested = true → step s = .next { s with status := .stopped }) ∧
    stepUnder true s = .next { s with stopRequested := true, status := .stopped }

/-- R36, R207: a step exists exactly for a running core; the outcome of every other is the halt's name (log 8). R39, R230:
reset leads back to a running core, with program memory and the parameters as they were (log 11), at PC 0, which is the
spec's own choice (decision D10, log 25). -/
def Obligations.StepExistsExactlyWhileRunning : Prop :=
  (∀ s : State, (∃ t, step s = .next t) ↔ s.status = .running) ∧
  (∀ (s : State) (r : FaultRecord), s.status = .faulted r → step s = .fault (.coreFaulted r)) ∧
  (∀ s : State, s.status = .stopped → step s = .fault .coreStopped) ∧
  ∀ (s : State) (draw : ResetDraw), (resetPort draw s).status = .running ∧ (resetPort draw s).prog = s.prog ∧
    (resetPort draw s).cfg = s.cfg ∧ (resetPort draw s).pc = 0

/-- R202: no step enters the selector fault. -/
def Obligations.SelectorFaultNeverRecorded : Prop :=
  ∀ (s t : State) (c : SelCode), step s = .next t → t.status ≠ .faulted (.unknownBusSelector c)

/-! ### Literal and selector instructions -/

/-- LITL changes nothing beyond the increment and the fold. That it has no handler effect is the spec's own choice
(decision D5, log 16). -/
def Obligations.LitlOnlyFolds : Prop :=
  ∀ (d : Imm) (s : State), exec (.litl d) s = .next (fetched d s)

/-- R86: after LITH the literal register is `data ++ data`, nothing else changed but PC; the high half then stays across any
number of other instructions. -/
def Obligations.LithAloneWritesTheHighHalf : Prop :=
  (∀ (d : Imm) (s : State),
    exec (.lith d) s = .next { s with pc := nextIndex s, lit := BitVec.ofNat 32 (d.toNat * 65536 + d.toNat) }) ∧
  (∀ (m : OpcodeMap) (d : Imm), encode m (.lith d) = wordOf (m.code .lith) d) ∧
  ∀ (body : List Instr) (s : State), (∀ i ∈ body, i.cls ≠ .lith) →
    ∃ t, execAll body s = .next t ∧ t.lit.toNat / 65536 = s.lit.toNat / 65536

/-- BUS writes the low four bits of its immediate to SEL and changes nothing else beyond the fold. That the masked value is
the immediate is the spec's own choice (decision D3, log 14). -/
def Obligations.BusInstructionSelectsLowNibble : Prop :=
  ∀ (d : Imm) (s : State), exec (.bus d) s = .next { fetched d s with sel := BitVec.ofNat 4 (d.toNat % 16) }

/-- After LITH y, any instruction with immediate x sees `(y << 16) | x` in the literal register, and a literal-valued source
carries it; LITL then LITH leaves `(y << 16) | y`. R88 says so, but this order, against the source's own section 8, is the
spec's choice between two texts of the source (conflict C2, decision D5, log 16). -/
def Obligations.LithThenConsumerComposes : Prop :=
  ∀ (s : State) (x y : Imm), ∃ t, exec (.lith y) s = .next t ∧
    (∀ i : Instr, i.data = x → (afterFetch i.data t).lit = y.zeroExtend 32 <<< (16 : Nat) ||| x.zeroExtend 32) ∧
    ((busSource s).isLiteral = true →
      ∃ u, exec (.seta x) t = .next u ∧ u.a = y.zeroExtend 32 <<< (16 : Nat) ||| x.zeroExtend 32) ∧
    ∃ u, execAll [.litl x, .lith y] s = .next u ∧
      u.lit = y.zeroExtend 32 <<< (16 : Nat) ||| y.zeroExtend 32

/-! ### The bus and the ALU -/

/-- R105: bit i+1 of the shift-left source is bit i of A, bit 0 is 0. -/
def Obligations.ShiftLeftSourceBits : Prop :=
  ∀ s : State, busSource s = .shl →
    (∀ i, i ≤ 30 → (bus s).getLsbD (i + 1) = s.a.getLsbD i) ∧ (bus s).getLsbD 0 = false

/-- Bit i of the shift-right source is bit i+1 of A, bit 31 is 0. The zero fill is the spec's own reading (decision D17,
log 22). -/
def Obligations.ShiftRightSourceBits : Prop :=
  ∀ s : State, busSource s = .shr →
    (∀ i, i ≤ 30 → (bus s).getLsbD i = s.a.getLsbD (i + 1)) ∧ (bus s).getLsbD 31 = false

/-- R107: the logic sources combine A and B bit by bit over all 32 bits. -/
def Obligations.LogicSourceBits : Prop :=
  ∀ (s : State) (i : Nat), i < 32 →
    (busSource s = .and → (bus s).getLsbD i = (s.a.getLsbD i && s.b.getLsbD i)) ∧
    (busSource s = .or → (bus s).getLsbD i = (s.a.getLsbD i || s.b.getLsbD i)) ∧
    (busSource s = .xor → (bus s).getLsbD i = xor (s.a.getLsbD i) (s.b.getLsbD i))

/-- R108: the sum source is A + B + CARRY modulo 2^32 and commutative in A and B; with B the complement of y and CARRY set
it is A - y. -/
def Obligations.SumSourceWrapsAndSubtracts : Prop :=
  ∀ s : State, busSource s = .sum →
    (bus s).toNat = (s.a.toNat + s.b.toNat + s.carry.toNat) % 2 ^ 32 ∧
    bus { s with a := s.b, b := s.a } = bus s ∧
    ∀ y : Word, s.b = y ^^^ 0xFFFFFFFF → s.carry = true → bus s = s.a - y

/-- R102, R104: the memory sources read the array word that the address latch names, not the data latch, and a data-latch
load alone does not change what they return; the DRAM address source is the whole latch. -/
def Obligations.MemorySourcesReadTheArray : Prop :=
  ∀ s : State,
    (busSource s = .dramData → bus s = readWord s.dram (s.dramAddr.toNat % s.cfg.dramLen) ∧
      ∀ d, ∃ t, exec (.ddata d) s = .next t ∧ bus t = bus s) ∧
    (busSource s = .cacheData → bus s = readWord s.cache (s.cacheAddr.toNat % s.cfg.cacheLen) ∧
      ∀ d, ∃ t, exec (.cdata d) s = .next t ∧ bus t = bus s) ∧
    (busSource s = .dramAddr → bus s = s.dramAddr)

/-- A literal-valued source carries the literal register, which a handler sees with its own immediate in the low half. The
number of device placeholders is the spec's own choice (decision D18, log 13). -/
def Obligations.LiteralSourcesCarryOwnImmediate : Prop :=
  ∀ (s : State) (d : Imm), (busSource s).isLiteral = true →
    bus s = s.lit ∧ (bus (afterFetch d s)).toNat = s.lit.toNat / 65536 * 65536 + d.toNat

/-- R111, R112, R122: SETA, SETB and SETF load the bus value, computed from the registers as they were before the
instruction, and change nothing else beyond the increment and the fold; their words; the flags latch keeps its value over
every instruction but SETF. -/
def Obligations.LoadsTakeTheBusValue : Prop :=
  (∀ (d : Imm) (s : State),
    exec (.seta d) s = .next { fetched d s with a := busAt s d } ∧
    exec (.setb d) s = .next { fetched d s with b := busAt s d } ∧
    exec (.setf d) s = .next { fetched d s with flags := busAt s d }) ∧
  (∀ (m : OpcodeMap) (d : Imm),
    encode m (.seta d) = wordOf (m.code .seta) d ∧
    encode m (.setb d) = wordOf (m.code .setb) d ∧
    encode m (.setf d) = wordOf (m.code .setf) d) ∧
  ∀ (i : Instr) (s : State), i.cls ≠ .setf → ∃ t, exec i s = .next t ∧ t.flags = s.flags

/-- SETC loads bit 3 of the bus value into CARRY and changes nothing else beyond the increment and the fold. The bit number
is the source's, kept by the spec's own choice (decision D20, log 23). -/
def Obligations.SetcTakesBusBitThree : Prop :=
  ∀ (d : Imm) (s : State),
    exec (.setc d) s = .next { fetched d s with carry := decide ((busAt s d).toNat / 8 % 2 = 1) }

/-! ### The comparator and control flow -/

/-- The six conditional jumps go to their immediate on the outcomes of their predicate, and otherwise fall through, writing
nothing but PC and the fold (R123 to R128). The outcome is the parameter CMP_OUTCOME (decision D4, log 15). -/
def Obligations.ConditionalJumpsFollowTheOutcome : Prop :=
  ∀ (d : Imm) (s : State),
    exec (.jlt d) s = .next { fetched d s with pc := if outcome s = .lt then d else nextIndex s } ∧
    exec (.jle d) s = .next { fetched d s with pc := if outcome s = .lt ∨ outcome s = .eq then d else nextIndex s } ∧
    exec (.jgt d) s = .next { fetched d s with pc := if outcome s = .gt then d else nextIndex s } ∧
    exec (.jge d) s = .next { fetched d s with pc := if outcome s = .gt ∨ outcome s = .eq then d else nextIndex s } ∧
    exec (.jeq d) s = .next { fetched d s with pc := if outcome s = .eq then d else nextIndex s } ∧
    exec (.jne d) s = .next { fetched d s with pc := if outcome s = .lt ∨ outcome s = .gt then d else nextIndex s }

/-- For every comparator and every value of FLAGS exactly one of LT, EQ, GT holds, LE is LT or EQ, GE is not LT, GT is not
LE, NE is not EQ. The three-outcome form is the spec's own choice (decision D4, log 15). -/
def Obligations.PredicatesAreConsistent : Prop :=
  ∀ s : State,
    ((cmpHolds .lt s = true ∧ cmpHolds .eq s = false ∧ cmpHolds .gt s = false) ∨
     (cmpHolds .lt s = false ∧ cmpHolds .eq s = true ∧ cmpHolds .gt s = false) ∨
     (cmpHolds .lt s = false ∧ cmpHolds .eq s = false ∧ cmpHolds .gt s = true)) ∧
    cmpHolds .le s = (cmpHolds .lt s || cmpHolds .eq s) ∧ cmpHolds .ge s = !cmpHolds .lt s ∧ cmpHolds .gt s = !cmpHolds .le s ∧ cmpHolds .ne s = !cmpHolds .eq s

/-- At the reference comparator, a latch loaded with x - y gives EQ exactly when x = y, and gives the signed order of x and
y whenever the signed subtraction does not overflow. The reference comparator is the spec's own choice (decision D4,
log 15). -/
def Obligations.ReferenceComparatorOrdersDifferences : Prop :=
  ∀ x y : Word,
    (cmpOutcome .reference (x - y) = .eq ↔ x = y) ∧
    (-2 ^ 31 ≤ x.toInt - y.toInt → x.toInt - y.toInt < 2 ^ 31 →
      (cmpOutcome .reference (x - y) = .lt ↔ x.toInt < y.toInt) ∧
      (cmpOutcome .reference (x - y) = .gt ↔ y.toInt < x.toInt))

/-- The configuration type covers every value R9 allows the three map parameters: any map from classes to types, any map
from codes to sources, any total outcome function. The form of the parameters is the model's choice (log 1). -/
def Obligations.ParametersCoverEveryMap : Prop :=
  (∀ f : OpClass → OpType, ∃ m : OpcodeMap, (∀ c, m.code c = f c) ∧ (m.wf = true ↔ Function.Injective f)) ∧
  (∀ f : SelCode → BusSource, ∃ m : SelectorMap, (∀ c, m.source c = f c) ∧ (m.wf = true ↔ Function.Bijective f)) ∧
  ∀ f : Word → CmpOutcome, ∃ c : Comparator, ∀ w, cmpOutcome c w = f w

/-- R140: JMP goes to its immediate and changes nothing else beyond the fold; made again from where it leads, it changes
nothing at all. -/
def Obligations.JmpGoesToItsImmediate : Prop :=
  (∀ (d : Imm) (s : State), exec (.jmp d) s = .next { fetched d s with pc := d } ∧
    exec (.jmp d) { fetched d s with pc := d } = .next { fetched d s with pc := d }) ∧
  ∀ (m : OpcodeMap) (d : Imm), encode m (.jmp d) = wordOf (m.code .jmp) d

/-- CALL saves the index of the next instruction and goes to the low 16 bits of the bus value, changing nothing else beyond
the fold. The truncation is the spec's own choice (decision D6, log 17). -/
def Obligations.CallSavesNextAndGoesThroughTheBus : Prop :=
  ∀ (d : Imm) (s : State), exec (.call d) s =
    .next { fetched d s with retAddr := nextIndex s, pc := BitVec.ofNat 16 ((busAt s d).toNat % 65536) }

/-- R142: RET goes to the return slot, which keeps its value, and changes nothing else beyond the fold; after reset it goes
to 0. -/
def Obligations.RetGoesToTheReturnSlot : Prop :=
  (∀ (d : Imm) (s : State), exec (.ret d) s = .next { fetched d s with pc := s.retAddr }) ∧
  (∀ (m : OpcodeMap) (d : Imm), encode m (.ret d) = wordOf (m.code .ret) d) ∧
  ∀ (cfg : Config) (draw : ResetDraw) (d : Imm) (body : List Instr), (∀ i ∈ body, i.cls ≠ .call) →
    ∃ t, execAll (body ++ [.ret d]) (State.resetWith cfg draw) = .next t ∧ t.pc = 0

/-- R145: a call, then any instructions among which no call is, then a return restores the index after the call; a second
call before the return loses it. -/
def Obligations.ReturnRestoresUnlessCallsNest : Prop :=
  (∀ (s : State) (d d' : Imm) (body : List Instr), (∀ i ∈ body, i.cls ≠ .call) →
    ∃ t, execAll (.call d :: body ++ [.ret d']) s = .next t ∧ t.pc = nextIndex s) ∧
  ∀ (s : State) (d d' d'' : Imm) (body body' : List Instr),
    (∀ i ∈ body, i.cls ≠ .call) → (∀ i ∈ body', i.cls ≠ .call) →
    ∃ u t, execAll (.call d :: body) s = .next u ∧
      execAll (.call d :: body ++ .call d' :: body' ++ [.ret d'']) s = .next t ∧ t.pc = nextIndex u

/-- A jump to itself, the spec's HALT (R69), goes on forever while the stop input is never asserted: after any positive
number of steps the core runs, at the same index, in the same state. R84 and R216 let an asserted stop input end the run;
here `State.Executes` says that it is not asserted, and that no step changes its level is the model's choice (log 9, unsafe
for runs; the stop input itself is decision D14). -/
def Obligations.SelfJumpRunsForever : Prop :=
  ∀ s : State, s.Executes (.jmp s.pc) →
    ∃ t, t.status = .running ∧ t.pc = s.pc ∧ ∀ n, ReachesIn (n + 1) s t

/-! ### The memories -/

/-- R151, R155: CDATA and DDATA latch the bus value; the arrays, and everything else beyond the increment and the fold, are
unchanged; no source reads a data latch back. -/
def Obligations.DataLatchesTakeTheBusValue : Prop :=
  (∀ (d : Imm) (s : State),
    exec (.cdata d) s = .next { fetched d s with cacheData := busAt s d } ∧
    exec (.ddata d) s = .next { fetched d s with dramData := busAt s d }) ∧
  (∀ (m : OpcodeMap) (d : Imm),
    encode m (.cdata d) = wordOf (m.code .cdata) d ∧ encode m (.ddata d) = wordOf (m.code .ddata) d) ∧
  ∀ (s : State) (x y : Word), bus { s with cacheData := x, dramData := y } = bus s

/-- CADDR and DADDR latch the whole bus value, and DINC adds one to the DRAM latch modulo 2^32; nothing else changes beyond
the increment and the fold. The width and the step are the spec's own choice (decision D7, log 18). -/
def Obligations.AddressLatchesTakeTheBusOrStep : Prop :=
  ∀ (d : Imm) (s : State),
    exec (.caddr d) s = .next { fetched d s with cacheAddr := busAt s d } ∧
    exec (.daddr d) s = .next { fetched d s with dramAddr := busAt s d } ∧
    exec (.dinc d) s = .next { fetched d s with dramAddr := BitVec.ofNat 32 ((s.dramAddr.toNat + 1) % 2 ^ 32) }

/-- R152, R156: CWR and DWR write their data latch to the word that their address latch names modulo the bank's length, and
change nothing else beyond the increment and the fold: no other word of the bank, no word of the other bank, no latch.
Repeating the commit changes no word. -/
def Obligations.CommitWritesExactlyOneWord : Prop :=
  (∀ (d : Imm) (s : State), ∃ m, exec (.cwr d) s = .next { fetched d s with cache := m } ∧
    (Memory.wf s.cfg.cacheLen s.cache = true → ∀ k,
      readWord m k = if k = s.cacheAddr.toNat % s.cfg.cacheLen then s.cacheData else readWord s.cache k) ∧
    (Memory.wf s.cfg.cacheLen s.cache = true → ∀ d', ∃ u,
      exec (.cwr d') { fetched d s with cache := m } = .next u ∧ ∀ k, readWord u.cache k = readWord m k)) ∧
  (∀ (d : Imm) (s : State), ∃ m, exec (.dwr d) s = .next { fetched d s with dram := m } ∧
    (Memory.wf s.cfg.dramLen s.dram = true → ∀ k,
      readWord m k = if k = s.dramAddr.toNat % s.cfg.dramLen then s.dramData else readWord s.dram k) ∧
    (Memory.wf s.cfg.dramLen s.dram = true → ∀ d', ∃ u,
      exec (.dwr d') { fetched d s with dram := m } = .next u ∧ ∀ k, readWord u.dram k = readWord m k)) ∧
  ∀ (m : OpcodeMap) (d : Imm),
    encode m (.cwr d) = wordOf (m.code .cwr) d ∧ encode m (.dwr d) = wordOf (m.code .dwr) d

/-- R159: after a commit, a read with another address latch carries the committed word exactly when the two addresses are
equal modulo the length, and otherwise what it carried before; in particular the word is read back at a + L where that is
below 2^32. -/
def Obligations.CommittedWordAliasesModuloLength : Prop :=
  (∀ (s : State) (d : Imm) (x : Word), Memory.wf s.cfg.cacheLen s.cache = true → busSource s = .cacheData →
    ∃ t, exec (.cwr d) s = .next t ∧
      bus (t.setCacheAddr x) =
        (if x.toNat % s.cfg.cacheLen = s.cacheAddr.toNat % s.cfg.cacheLen then s.cacheData else bus (s.setCacheAddr x)) ∧
      (x.toNat = s.cacheAddr.toNat + s.cfg.cacheLen → bus (t.setCacheAddr x) = s.cacheData)) ∧
  ∀ (s : State) (d : Imm) (x : Word), Memory.wf s.cfg.dramLen s.dram = true → busSource s = .dramData →
    ∃ t, exec (.dwr d) s = .next t ∧
      bus (t.setDramAddr x) =
        (if x.toNat % s.cfg.dramLen = s.dramAddr.toNat % s.cfg.dramLen then s.dramData else bus (s.setDramAddr x)) ∧
      (x.toNat = s.dramAddr.toNat + s.cfg.dramLen → bus (t.setDramAddr x) = s.dramData)

/-- R158: with a literal-valued source, the address latch and the data latch may be set in either order before the commit,
with the same end state, and the committed word is then the one addressed. -/
def Obligations.LatchOrderDoesNotMatter : Prop :=
  ∀ (s : State) (x y z : Imm), (busSource s).isLiteral = true →
    (∃ t, execAll [.daddr x, .ddata y, .dwr z] s = .next t ∧ execAll [.ddata y, .daddr x, .dwr z] s = .next t ∧
      (Memory.wf s.cfg.dramLen s.dram = true →
        readWord t.dram ((folded s x).toNat % s.cfg.dramLen) = folded s y)) ∧
    ∃ t, execAll [.caddr x, .cdata y, .cwr z] s = .next t ∧ execAll [.cdata y, .caddr x, .cwr z] s = .next t ∧
      (Memory.wf s.cfg.cacheLen s.cache = true →
        readWord t.cache ((folded s x).toNat % s.cfg.cacheLen) = folded s y)

/-- Two canonical memories that read the same at every index are the same data (the model's own form, log 6). -/
def Obligations.CanonicalMemoriesAreDeterminedByReads : Prop :=
  ∀ (w len : Nat) (m m' : Cells w), Memory.wf len m = true → Memory.wf len m' = true →
    (∀ k, readWord m k = readWord m' k) → m = m'

/-! ### Devices -/

/-- Each device instruction adds one event, its kind with the bus value, to what the port has carried, and changes nothing
else beyond the increment and the fold. The twelve kinds and the form of the event are the spec's own choice (decision D13,
log 21); the record of the port is the model's (log 10). -/
def Obligations.DeviceInstructionsEmitTheBusValue : Prop :=
  ∀ (d : Imm) (s : State),
    exec (.tcolor d) s = .next { fetched d s with port := s.port ++ [⟨.textColor, busAt s d⟩] } ∧
    exec (.tchar d) s = .next { fetched d s with port := s.port ++ [⟨.textChar, busAt s d⟩] } ∧
    exec (.tcursor d) s = .next { fetched d s with port := s.port ++ [⟨.textCursor, busAt s d⟩] } ∧
    exec (.ucfg d) s = .next { fetched d s with port := s.port ++ [⟨.uartConfig, busAt s d⟩] } ∧
    exec (.utx d) s = .next { fetched d s with port := s.port ++ [⟨.uartTx, busAt s d⟩] } ∧
    exec (.rtc d) s = .next { fetched d s with port := s.port ++ [⟨.rtc, busAt s d⟩] } ∧
    exec (.kbd d) s = .next { fetched d s with port := s.port ++ [⟨.keyboard, busAt s d⟩] } ∧
    exec (.timer d) s = .next { fetched d s with port := s.port ++ [⟨.timer, busAt s d⟩] } ∧
    exec (.spkr d) s = .next { fetched d s with port := s.port ++ [⟨.speaker, busAt s d⟩] } ∧
    exec (.vpix d) s = .next { fetched d s with port := s.port ++ [⟨.vgaPixelMode, busAt s d⟩] } ∧
    exec (.vblink d) s = .next { fetched d s with port := s.port ++ [⟨.vgaBlinkMode, busAt s d⟩] } ∧
    exec (.serdrv d) s = .next { fetched d s with port := s.port ++ [⟨.serialDrive, busAt s d⟩] }

/-- The record of the port only grows: over any run, what it carried before is a prefix of what it carried after, and a
step adds at most one event (the model's record, log 10). -/
def Obligations.PortRecordOnlyGrows : Prop :=
  (∀ s t : State, step s = .next t →
    t.port = s.port ∨ ∃ e, t.port = s.port ++ [e] ∧ e.value = busAt s (dataOf s.nextWord)) ∧
  ∀ s t : State, Reaches s t → ∃ events, t.port = s.port ++ events

/-! ### Reset and load -/

/-- R232: after reset the bus selector names the literal register, for every launch. -/
def Obligations.ResetSelectsTheLiteral : Prop :=
  ∀ (cfg : Config) (draw : ResetDraw), cfg.wf = true →
    busSource (State.resetWith cfg draw) = .lit ∧ bus (State.resetWith cfg draw) = draw.lit

/-- Reset gives every state element its value of the table of 10_state.md section 10: the listed ones, and for the others
the draw's. PC 0 is the spec's own choice (decision D10, log 25). Beside the table, and the model's choice: the stop input is
not asserted (log 9) and the record of the port is empty (log 10). `State.reset` takes the parameters of log 2, zero for
every register and latch the spec gives no value (log 3), and memories in which every word reads as zero (log 4), no program
among them (log 5): the model's choices, which the spec does not give. -/
def Obligations.ResetGivesTheTabledValues : Prop :=
  (∀ (cfg : Config) (draw : ResetDraw), State.resetWith cfg draw =
    { cfg := cfg, pc := 0, retAddr := 0, lit := draw.lit, sel := cfg.selectorMap.code .lit, a := draw.a, b := draw.b,
      carry := draw.carry, flags := draw.flags, cacheAddr := draw.cacheAddr, cacheData := draw.cacheData,
      cache := draw.cache, dramAddr := draw.dramAddr, dramData := draw.dramData, dram := draw.dram, prog := draw.prog,
      status := .running, stopRequested := false, port := [] }) ∧
  ResetDraw.zero =
    { lit := 0, a := 0, b := 0, carry := false, flags := 0, cacheAddr := 0, cacheData := 0, cache := [], dramAddr := 0,
      dramData := 0, dram := [], prog := [] } ∧
  State.reset =
    { cfg := { progLen := 65536, cacheLen := 16, dramLen := 1000, opcodeMap := .reference, selectorMap := .reference,
               comparator := .reference },
      pc := 0, retAddr := 0, lit := 0, sel := 0, a := 0, b := 0, carry := false, flags := 0, cacheAddr := 0,
      cacheData := 0, cache := [], dramAddr := 0, dramData := 0, dram := [], prog := [], status := .running,
      stopRequested := false, port := [] } ∧
  ∀ k : Nat, readWord State.reset.cache k = 0 ∧ readWord State.reset.dram k = 0 ∧ readWord State.reset.prog k = 0

/-- The load puts word k of the image, bytes 3k to 3k+2 low byte first, at index k, leaves every other word and all else,
and drops a trailing partial word; an image of more than PROG_LEN words, or none, fails. The failure of an oversize image is
the spec's own choice (decision D16, log 20). -/
def Obligations.ImageLoadsLittleEndianWords : Prop :=
  (∀ (s : State) (bytes : List Byte), Memory.wf s.cfg.progLen s.prog = true → bytes.length / 3 ≤ s.cfg.progLen →
    ∃ t, loadImage (some bytes) s = .ok t ∧ { t with prog := s.prog } = s ∧
      ∀ k, (readWord t.prog k).toNat =
        if k < bytes.length / 3 then
          (bytes.getD (3 * k) 0).toNat + 256 * (bytes.getD (3 * k + 1) 0).toNat + 65536 * (bytes.getD (3 * k + 2) 0).toNat
        else (readWord s.prog k).toNat) ∧
  (∀ (s : State) (bytes : List Byte), s.cfg.progLen < bytes.length / 3 → loadImage (some bytes) s = .error .tooLong) ∧
  ∀ s : State, loadImage none s = .error .unreadable

/-- The image bytes of instructions load as their words: what is assembled is what is fetched (R57, R61). -/
def Obligations.LoadedInstructionsAreFetched : Prop :=
  ∀ (cfg : Config) (draw : ResetDraw) (prog : List Instr), cfg.wf = true → draw.wf cfg = true →
    prog.length ≤ cfg.progLen →
    ∃ s, launch cfg draw (some (prog.flatMap (encodeBytes cfg.opcodeMap))) = .ok s ∧
      ∀ (k : Nat) (h : k < prog.length), decodeWord cfg.opcodeMap (readWord s.prog k) = .ok prog[k]

/-! ### The whole machine -/

/-- The invariant holds right after reset. -/
def Obligations.ResetMeetsTheInvariant : Prop := State.reset.Inv

/-- The invariant holds after every launch that succeeds, with any parameters R9 allows and any canonical draw. -/
def Obligations.LaunchMeetsTheInvariant : Prop :=
  ∀ (cfg : Config) (draw : ResetDraw) (image : Option (List Byte)) (s : State),
    cfg.wf = true → draw.wf cfg = true → launch cfg draw image = .ok s → s.Inv

/-- Every step keeps the invariant: the parameters stay within R9, the three memories stay canonical inside their lengths,
and a recorded fault is consistent with the state it leaves (R201, R202, R203, R206). -/
def Obligations.StepKeepsTheInvariant : Prop :=
  ∀ s t : State, s.Inv → step s = .next t → t.Inv

/-- R40, R56: no run changes a word of program memory, or the launch parameters (that these stand in the state is the
model's form, log 1). -/
def Obligations.RunNeverWritesProgramMemory : Prop :=
  ∀ s t : State, Reaches s t → t.prog = s.prog ∧ t.cfg = s.cfg

/-- The "written by" column of 10_state.md R20, over every step, for every state element and beside them for the record of
the device port. Whatever differs after a step shows that the step executed one of the instructions the column lists for it.
PC: only where the step fetched, and beyond the increment only by JMP, CALL, RET or a taken conditional jump. LIT's low half:
only where the step fetched, and it is then the immediate of the fetched word; its high half: only by LITH. STATUS: only by
the stop or a fault, and then no instruction was executed. The record of the port (the model's own, log 10) grows only by a
device instruction. PROG never differs; nor do the parameters (log 1) and the level of the stop input, which taking the stop
does not clear (the model's choice, log 9). -/
def Obligations.OnlyListedInstructionsWrite : Prop :=
  ∀ s t : State, step s = .next t →
    (t.pc ≠ s.pc → s.Fetching) ∧
    (t.pc ≠ s.pc → t.pc ≠ nextIndex s → ∃ i, s.Executes i ∧ transfers s i.cls) ∧
    (t.lit.toNat % 65536 ≠ s.lit.toNat % 65536 →
      s.Fetching ∧ t.lit.toNat % 65536 = (dataOf s.nextWord).toNat) ∧
    (t.port ≠ s.port → ∃ i, s.Executes i ∧ i.cls ∈ deviceClasses) ∧
    (t.retAddr ≠ s.retAddr → ∃ d, s.Executes (.call d)) ∧
    (t.lit.toNat / 65536 ≠ s.lit.toNat / 65536 → ∃ d, s.Executes (.lith d)) ∧
    (t.sel ≠ s.sel → ∃ d, s.Executes (.bus d)) ∧
    (t.a ≠ s.a → ∃ d, s.Executes (.seta d)) ∧
    (t.b ≠ s.b → ∃ d, s.Executes (.setb d)) ∧
    (t.carry ≠ s.carry → ∃ d, s.Executes (.setc d)) ∧
    (t.flags ≠ s.flags → ∃ d, s.Executes (.setf d)) ∧
    (t.cacheAddr ≠ s.cacheAddr → ∃ d, s.Executes (.caddr d)) ∧
    (t.cacheData ≠ s.cacheData → ∃ d, s.Executes (.cdata d)) ∧
    (t.cache ≠ s.cache → ∃ d, s.Executes (.cwr d)) ∧
    (t.dramAddr ≠ s.dramAddr → ∃ d, s.Executes (.daddr d) ∨ s.Executes (.dinc d)) ∧
    (t.dramData ≠ s.dramData → ∃ d, s.Executes (.ddata d)) ∧
    (t.dram ≠ s.dram → ∃ d, s.Executes (.dwr d)) ∧
    (t.status ≠ s.status → (∀ i, ¬ s.Executes i) ∧
      ((s.stopRequested = true ∧ t.status = .stopped) ∨
       (s.stopRequested = false ∧ s.cfg.progLen ≤ s.pc.toNat ∧ t.status = .faulted (.fetchOutOfRange s.pc)) ∨
       (s.Fetching ∧ t.status = .faulted (.unknownOpcode (typeOf s.nextWord))))) ∧
    t.prog = s.prog ∧ t.cfg = s.cfg ∧ t.stopRequested = s.stopRequested

/-- R24, R30, R37, the "read by" column of R20: the data latches are read only by their commits, the return slot only by
RET, the flags latch only by the conditional jumps. Two states that differ in these only, run on an instruction that does
not read them, end in states that differ in these only. -/
def Obligations.UnreadRegistersDoNotInfluence : Prop :=
  ∀ (i : Instr) (s : State) (x y f : Word) (r : ProgIndex),
    ∃ t, exec i s = .next t ∧
      (i.cls ∉ [OpClass.cwr, .cdata] →
        exec i { s with cacheData := x } = .next { t with cacheData := x }) ∧
      (i.cls ∉ [OpClass.dwr, .ddata] →
        exec i { s with dramData := y } = .next { t with dramData := y }) ∧
      (i.cls ∉ [OpClass.ret, .call] →
        exec i { s with retAddr := r } = .next { t with retAddr := r }) ∧
      (i.cls ∉ [OpClass.jlt, .jle, .jgt, .jge, .jeq, .jne, .setf] →
        exec i { s with flags := f } = .next { t with flags := f }) ∧
      (i.cls = .cdata → exec i { s with cacheData := x } = .next t) ∧
      (i.cls = .ddata → exec i { s with dramData := y } = .next t) ∧
      (i.cls = .call → exec i { s with retAddr := r } = .next t) ∧
      (i.cls = .setf → exec i { s with flags := f } = .next t)
end

