-- ==== Sys2Proof/Laws/Decode.lean ====
section
/-! SUPPORT. The classes and the opcode map: what `classOf` finds, and that a well-formed map is injective. -/

namespace Sys2Proof

/-- The data field of a word is what it was built from (R61). -/
theorem dataOf_wordOf (t : OpType) (d : Imm) : dataOf (wordOf t d) = d := by
  apply BitVec.eq_of_getLsbD_eq
  intro k hk
  have h := BitVec.getLsbD_append (x := t) (y := d) (i := k)
  simp only [dataOf, wordOf, BitVec.getLsbD_extractLsb', hk, decide_true, Bool.true_and, Nat.zero_add]
  exact h.trans (if_pos hk)

/-- The type field of a word is what it was built from (R61). -/
theorem typeOf_wordOf (t : OpType) (d : Imm) : typeOf (wordOf t d) = t := by
  apply BitVec.eq_of_getLsbD_eq
  intro k hk
  have h := BitVec.getLsbD_append (x := t) (y := d) (i := 16 + k)
  simp only [typeOf, wordOf, BitVec.getLsbD_extractLsb', hk, decide_true, Bool.true_and]
  rw [if_neg (by omega), Nat.add_sub_cancel_left] at h
  exact h

/-- The type field as arithmetic (R61). -/
theorem typeOf_toNat (w : ProgWord) : (typeOf w).toNat = w.toNat / 65536 := by
  have h := w.isLt
  simp only [typeOf, BitVec.extractLsb'_toNat, Nat.shiftRight_eq_div_pow]
  omega

/-- The data field as arithmetic (R61). -/
theorem dataOf_toNat (w : ProgWord) : (dataOf w).toNat = w.toNat % 65536 := by
  simp [dataOf, BitVec.extractLsb'_toNat]

/-- The word of two fields as arithmetic (R62). -/
theorem wordOf_toNat (t : OpType) (d : Imm) : (wordOf t d).toNat = t.toNat * 65536 + d.toNat := by
  refine (BitVec.toNat_append t d).trans ?_
  rw [← Nat.shiftLeft_add_eq_or_of_lt d.isLt, Nat.shiftLeft_eq]

/-- The word of three bytes as arithmetic, low byte first (R57). -/
theorem wordOfBytes_toNat (b0 b1 b2 : Byte) :
    (wordOfBytes b0 b1 b2).toNat = b0.toNat + 256 * b1.toNat + 65536 * b2.toNat := by
  have h1 : (b2 ++ b1).toNat = b2.toNat * 256 + b1.toNat := by
    rw [BitVec.toNat_append, ← Nat.shiftLeft_add_eq_or_of_lt b1.isLt, Nat.shiftLeft_eq]
  refine (BitVec.toNat_append (b2 ++ b1) b0).trans ?_
  rw [← Nat.shiftLeft_add_eq_or_of_lt b0.isLt, Nat.shiftLeft_eq, h1]
  omega

theorem OpClass.mem_all (c : OpClass) : c ∈ OpClass.all := by cases c <;> decide

/-- A class stands at its index in the list of all. -/
theorem OpClass.all_index (c : OpClass) : OpClass.all[c.index.val]? = some c := by cases c <;> rfl

theorem OpClass.index_injective (c c' : OpClass) (h : c.index = c'.index) : c = c' := by
  have := OpClass.all_index c
  rw [h, OpClass.all_index c'] at this
  exact (Option.some.inj this).symm

@[simp] theorem OpClass.instr_cls (c : OpClass) (d : Imm) : (c.instr d).cls = c := by cases c <;> rfl

@[simp] theorem OpClass.instr_data (c : OpClass) (d : Imm) : (c.instr d).data = d := by cases c <;> rfl

@[simp] theorem Instr.instr_of_cls (i : Instr) : i.cls.instr i.data = i := by cases i <;> rfl

/-- What the decoder's search finds has the type searched for. -/
theorem OpcodeMap.code_of_classOf (m : OpcodeMap) (t : OpType) (c : OpClass) (h : m.classOf t = some c) :
    m.code c = t := by
  simpa using List.find?_some h

/-- The search finds nothing exactly when no class has the type (R65). -/
theorem OpcodeMap.classOf_eq_none (m : OpcodeMap) (t : OpType) :
    m.classOf t = none ↔ ∀ c, m.code c ≠ t := by
  simp [OpcodeMap.classOf, List.find?_eq_none, OpClass.mem_all]

/-- A decoded instruction has the word's type and data. -/
theorem decodeWord_eq_ok (m : OpcodeMap) (w : ProgWord) (i : Instr) :
    decodeWord m w = .ok i ↔ m.classOf (typeOf w) = some i.cls ∧ i.data = dataOf w := by
  unfold decodeWord
  cases h : m.classOf (typeOf w) with
  | none => simp
  | some c =>
    simp only [Except.ok.injEq, Option.some.injEq]
    constructor
    · rintro rfl; simp
    · rintro ⟨rfl, hd⟩; rw [← hd, Instr.instr_of_cls]

/-- A word is rejected exactly when no class has its type (R65). -/
theorem decodeWord_eq_error (m : OpcodeMap) (w : ProgWord) (e : DecodeError) :
    decodeWord m w = .error e ↔ (∀ c, m.code c ≠ typeOf w) ∧ e = .unknownOpcode (typeOf w) := by
  rw [← OpcodeMap.classOf_eq_none]
  unfold decodeWord
  cases h : m.classOf (typeOf w) <;> simp [eq_comm]

end Sys2Proof
end

