-- ==== Sys2Proof/Laws/Memory.lean ====
section
/-! SUPPORT. The laws of the word memories: a write is read back, every other word stays, the canonical form is kept. -/

namespace Sys2Proof.Machine

variable {w : Nat}

theorem Memory.wf_iff (len : Nat) (m : Cells w) :
    Memory.wf len m = true ↔
      m.Pairwise (fun x y => x.1 < y.1) ∧ ∀ x ∈ m, x.1 < len ∧ x.2 ≠ unlistedWord w := by
  simp [Memory.wf]

@[simp] theorem Memory.wf_nil (len : Nat) : Memory.wf len ([] : Cells w) = true := by simp [Memory.wf]

@[simp] theorem readWord_nil (i : Nat) : readWord ([] : Cells w) i = unlistedWord w := rfl

theorem readWord_cons (j : Nat) (u : BitVec w) (rest : Cells w) (i : Nat) :
    readWord ((j, u) :: rest) i = if i = j then u else readWord rest i := rfl

/-- An index that no cell lists reads as the unlisted word. -/
theorem readWord_of_not_listed (m : Cells w) (i : Nat) (h : ∀ x ∈ m, x.1 ≠ i) :
    readWord m i = unlistedWord w := by
  induction m with
  | nil => rfl
  | cons x rest ih =>
    obtain ⟨j, u⟩ := x
    have hj : i ≠ j := fun e => h (j, u) (by simp) e.symm
    rw [readWord_cons, if_neg hj]
    exact ih fun x hx => h x (by simp [hx])

/-- Every index below the first one of a rising list reads as the unlisted word. -/
theorem readWord_below (m : Cells w) (i j : Nat) (hm : ∀ x ∈ m, j < x.1) (hi : i ≤ j) :
    readWord m i = unlistedWord w :=
  readWord_of_not_listed m i fun x hx => by have := hm x hx; omega

/-- A write is read back, and every other index reads as before. -/
theorem readWord_writeWord (m : Cells w) (i k : Nat) (v : BitVec w)
    (hm : m.Pairwise (fun x y => x.1 < y.1)) :
    readWord (writeWord m i v) k = if k = i then v else readWord m k := by
  induction m with
  | nil =>
    by_cases hv : v = unlistedWord w <;> by_cases hk : k = i <;> simp [writeWord, readWord, hv, hk]
  | cons x rest ih =>
    obtain ⟨j, u⟩ := x
    obtain ⟨hlt, hrest⟩ := List.pairwise_cons.mp hm
    have hbelow : ∀ n, n ≤ j → readWord rest n = unlistedWord w := fun n hn => readWord_below rest n j hlt hn
    rw [writeWord]
    split
    · rename_i hij
      split
      · rename_i hv
        by_cases hk : k = i
        · subst hk
          rw [readWord_cons, if_neg (by omega), hbelow k (by omega), if_pos rfl, hv]
        · rw [if_neg hk]
      · rw [readWord_cons]
    · rename_i hij
      split
      · rename_i hij'
        subst hij'
        split
        · rename_i hv
          by_cases hk : k = i
          · subst hk; rw [if_pos rfl, hbelow k (by omega), hv]
          · rw [if_neg hk, readWord_cons, if_neg hk]
        · rw [readWord_cons, readWord_cons]
          by_cases hk : k = i <;> simp [hk]
      · rename_i hij'
        rw [readWord_cons, readWord_cons, ih hrest]
        by_cases hk : k = j
        · subst hk; rw [if_pos rfl, if_pos rfl, if_neg (by omega)]
        · rw [if_neg hk, if_neg hk]

/-- Every cell after a write was there before or is the written one. -/
theorem mem_writeWord (m : Cells w) (i : Nat) (v : BitVec w) (x : Nat × BitVec w)
    (hx : x ∈ writeWord m i v) : x ∈ m ∨ (x = (i, v) ∧ v ≠ unlistedWord w) := by
  induction m with
  | nil =>
    by_cases hv : v = unlistedWord w <;> simp [writeWord, hv] at hx
    exact .inr ⟨hx, hv⟩
  | cons y rest ih =>
    obtain ⟨j, u⟩ := y
    rw [writeWord] at hx
    split at hx
    · split at hx
      · exact .inl hx
      · rename_i hv
        rcases List.mem_cons.mp hx with h | h
        · exact .inr ⟨h, hv⟩
        · exact .inl h
    · split at hx
      · split at hx
        · exact .inl (List.mem_cons_of_mem _ hx)
        · rename_i hv
          rcases List.mem_cons.mp hx with h | h
          · exact .inr ⟨h, hv⟩
          · exact .inl (List.mem_cons_of_mem _ h)
      · rcases List.mem_cons.mp hx with h | h
        · exact .inl (h ▸ List.mem_cons_self ..)
        · rcases ih h with h' | h'
          · exact .inl (List.mem_cons_of_mem _ h')
          · exact .inr h'

/-- A write keeps the indices rising. -/
theorem pairwise_writeWord (m : Cells w) (i : Nat) (v : BitVec w)
    (hm : m.Pairwise (fun x y => x.1 < y.1)) : (writeWord m i v).Pairwise (fun x y => x.1 < y.1) := by
  induction m with
  | nil => by_cases hv : v = unlistedWord w <;> simp [writeWord, hv]
  | cons y rest ih =>
    obtain ⟨j, u⟩ := y
    obtain ⟨hlt, hrest⟩ := List.pairwise_cons.mp hm
    rw [writeWord]
    split
    · rename_i hij
      split
      · exact hm
      · refine List.pairwise_cons.mpr ⟨fun x hx => ?_, hm⟩
        rcases List.mem_cons.mp hx with h | h
        · subst h; exact hij
        · have := hlt x h; simp at this ⊢; omega
    · split
      · rename_i hij
        subst hij
        split
        · exact hrest
        · exact List.pairwise_cons.mpr ⟨hlt, hrest⟩
      · refine List.pairwise_cons.mpr ⟨fun x hx => ?_, ih hrest⟩
        rcases mem_writeWord rest i v x hx with h | ⟨h, _⟩
        · exact hlt x h
        · subst h; simp; omega

/-- Every memory operation keeps the canonical form. -/
theorem writeWord_keeps_wf (len : Nat) (m : Cells w) (i : Nat) (v : BitVec w)
    (hm : Memory.wf len m = true) (hi : i < len) : Memory.wf len (writeWord m i v) = true := by
  obtain ⟨hp, hall⟩ := (Memory.wf_iff len m).mp hm
  refine (Memory.wf_iff len _).mpr ⟨pairwise_writeWord m i v hp, fun x hx => ?_⟩
  rcases mem_writeWord m i v x hx with h | ⟨h, hv⟩
  · exact hall x h
  · subst h; exact ⟨hi, hv⟩

/-- Storing consecutive words keeps the canonical form. -/
theorem storeWords_keeps_wf (len : Nat) (words : List (BitVec w)) (m : Cells w) (k : Nat)
    (hm : Memory.wf len m = true) (hk : k + words.length ≤ len) :
    Memory.wf len (storeWords m k words) = true := by
  induction words generalizing m k with
  | nil => exact hm
  | cons v rest ih =>
    simp only [List.length_cons] at hk
    exact ih _ _ (writeWord_keeps_wf len m k v hm (by omega)) (by omega)

end Sys2Proof.Machine
end

