-- ==== Sys2Proof/Laws/State.lean ====
section
/-! SUPPORT. One lemma per field per update of the state, each true by rfl. -/

namespace Sys2Proof.Machine

variable (s : State)

@[simp] theorem State.setPc_cfg (v : ProgIndex) : (s.setPc v).cfg = s.cfg := rfl
@[simp] theorem State.setPc_pc (v : ProgIndex) : (s.setPc v).pc = v := rfl
@[simp] theorem State.setPc_retAddr (v : ProgIndex) : (s.setPc v).retAddr = s.retAddr := rfl
@[simp] theorem State.setPc_lit (v : ProgIndex) : (s.setPc v).lit = s.lit := rfl
@[simp] theorem State.setPc_sel (v : ProgIndex) : (s.setPc v).sel = s.sel := rfl
@[simp] theorem State.setPc_a (v : ProgIndex) : (s.setPc v).a = s.a := rfl
@[simp] theorem State.setPc_b (v : ProgIndex) : (s.setPc v).b = s.b := rfl
@[simp] theorem State.setPc_carry (v : ProgIndex) : (s.setPc v).carry = s.carry := rfl
@[simp] theorem State.setPc_flags (v : ProgIndex) : (s.setPc v).flags = s.flags := rfl
@[simp] theorem State.setPc_cacheAddr (v : ProgIndex) : (s.setPc v).cacheAddr = s.cacheAddr := rfl
@[simp] theorem State.setPc_cacheData (v : ProgIndex) : (s.setPc v).cacheData = s.cacheData := rfl
@[simp] theorem State.setPc_cache (v : ProgIndex) : (s.setPc v).cache = s.cache := rfl
@[simp] theorem State.setPc_dramAddr (v : ProgIndex) : (s.setPc v).dramAddr = s.dramAddr := rfl
@[simp] theorem State.setPc_dramData (v : ProgIndex) : (s.setPc v).dramData = s.dramData := rfl
@[simp] theorem State.setPc_dram (v : ProgIndex) : (s.setPc v).dram = s.dram := rfl
@[simp] theorem State.setPc_prog (v : ProgIndex) : (s.setPc v).prog = s.prog := rfl
@[simp] theorem State.setPc_status (v : ProgIndex) : (s.setPc v).status = s.status := rfl
@[simp] theorem State.setPc_stopRequested (v : ProgIndex) : (s.setPc v).stopRequested = s.stopRequested := rfl
@[simp] theorem State.setPc_port (v : ProgIndex) : (s.setPc v).port = s.port := rfl

@[simp] theorem State.setRetAddr_cfg (v : ProgIndex) : (s.setRetAddr v).cfg = s.cfg := rfl
@[simp] theorem State.setRetAddr_pc (v : ProgIndex) : (s.setRetAddr v).pc = s.pc := rfl
@[simp] theorem State.setRetAddr_retAddr (v : ProgIndex) : (s.setRetAddr v).retAddr = v := rfl
@[simp] theorem State.setRetAddr_lit (v : ProgIndex) : (s.setRetAddr v).lit = s.lit := rfl
@[simp] theorem State.setRetAddr_sel (v : ProgIndex) : (s.setRetAddr v).sel = s.sel := rfl
@[simp] theorem State.setRetAddr_a (v : ProgIndex) : (s.setRetAddr v).a = s.a := rfl
@[simp] theorem State.setRetAddr_b (v : ProgIndex) : (s.setRetAddr v).b = s.b := rfl
@[simp] theorem State.setRetAddr_carry (v : ProgIndex) : (s.setRetAddr v).carry = s.carry := rfl
@[simp] theorem State.setRetAddr_flags (v : ProgIndex) : (s.setRetAddr v).flags = s.flags := rfl
@[simp] theorem State.setRetAddr_cacheAddr (v : ProgIndex) : (s.setRetAddr v).cacheAddr = s.cacheAddr := rfl
@[simp] theorem State.setRetAddr_cacheData (v : ProgIndex) : (s.setRetAddr v).cacheData = s.cacheData := rfl
@[simp] theorem State.setRetAddr_cache (v : ProgIndex) : (s.setRetAddr v).cache = s.cache := rfl
@[simp] theorem State.setRetAddr_dramAddr (v : ProgIndex) : (s.setRetAddr v).dramAddr = s.dramAddr := rfl
@[simp] theorem State.setRetAddr_dramData (v : ProgIndex) : (s.setRetAddr v).dramData = s.dramData := rfl
@[simp] theorem State.setRetAddr_dram (v : ProgIndex) : (s.setRetAddr v).dram = s.dram := rfl
@[simp] theorem State.setRetAddr_prog (v : ProgIndex) : (s.setRetAddr v).prog = s.prog := rfl
@[simp] theorem State.setRetAddr_status (v : ProgIndex) : (s.setRetAddr v).status = s.status := rfl
@[simp] theorem State.setRetAddr_stopRequested (v : ProgIndex) : (s.setRetAddr v).stopRequested = s.stopRequested := rfl
@[simp] theorem State.setRetAddr_port (v : ProgIndex) : (s.setRetAddr v).port = s.port := rfl

@[simp] theorem State.setLit_cfg (v : Word) : (s.setLit v).cfg = s.cfg := rfl
@[simp] theorem State.setLit_pc (v : Word) : (s.setLit v).pc = s.pc := rfl
@[simp] theorem State.setLit_retAddr (v : Word) : (s.setLit v).retAddr = s.retAddr := rfl
@[simp] theorem State.setLit_lit (v : Word) : (s.setLit v).lit = v := rfl
@[simp] theorem State.setLit_sel (v : Word) : (s.setLit v).sel = s.sel := rfl
@[simp] theorem State.setLit_a (v : Word) : (s.setLit v).a = s.a := rfl
@[simp] theorem State.setLit_b (v : Word) : (s.setLit v).b = s.b := rfl
@[simp] theorem State.setLit_carry (v : Word) : (s.setLit v).carry = s.carry := rfl
@[simp] theorem State.setLit_flags (v : Word) : (s.setLit v).flags = s.flags := rfl
@[simp] theorem State.setLit_cacheAddr (v : Word) : (s.setLit v).cacheAddr = s.cacheAddr := rfl
@[simp] theorem State.setLit_cacheData (v : Word) : (s.setLit v).cacheData = s.cacheData := rfl
@[simp] theorem State.setLit_cache (v : Word) : (s.setLit v).cache = s.cache := rfl
@[simp] theorem State.setLit_dramAddr (v : Word) : (s.setLit v).dramAddr = s.dramAddr := rfl
@[simp] theorem State.setLit_dramData (v : Word) : (s.setLit v).dramData = s.dramData := rfl
@[simp] theorem State.setLit_dram (v : Word) : (s.setLit v).dram = s.dram := rfl
@[simp] theorem State.setLit_prog (v : Word) : (s.setLit v).prog = s.prog := rfl
@[simp] theorem State.setLit_status (v : Word) : (s.setLit v).status = s.status := rfl
@[simp] theorem State.setLit_stopRequested (v : Word) : (s.setLit v).stopRequested = s.stopRequested := rfl
@[simp] theorem State.setLit_port (v : Word) : (s.setLit v).port = s.port := rfl

@[simp] theorem State.setSel_cfg (v : SelCode) : (s.setSel v).cfg = s.cfg := rfl
@[simp] theorem State.setSel_pc (v : SelCode) : (s.setSel v).pc = s.pc := rfl
@[simp] theorem State.setSel_retAddr (v : SelCode) : (s.setSel v).retAddr = s.retAddr := rfl
@[simp] theorem State.setSel_lit (v : SelCode) : (s.setSel v).lit = s.lit := rfl
@[simp] theorem State.setSel_sel (v : SelCode) : (s.setSel v).sel = v := rfl
@[simp] theorem State.setSel_a (v : SelCode) : (s.setSel v).a = s.a := rfl
@[simp] theorem State.setSel_b (v : SelCode) : (s.setSel v).b = s.b := rfl
@[simp] theorem State.setSel_carry (v : SelCode) : (s.setSel v).carry = s.carry := rfl
@[simp] theorem State.setSel_flags (v : SelCode) : (s.setSel v).flags = s.flags := rfl
@[simp] theorem State.setSel_cacheAddr (v : SelCode) : (s.setSel v).cacheAddr = s.cacheAddr := rfl
@[simp] theorem State.setSel_cacheData (v : SelCode) : (s.setSel v).cacheData = s.cacheData := rfl
@[simp] theorem State.setSel_cache (v : SelCode) : (s.setSel v).cache = s.cache := rfl
@[simp] theorem State.setSel_dramAddr (v : SelCode) : (s.setSel v).dramAddr = s.dramAddr := rfl
@[simp] theorem State.setSel_dramData (v : SelCode) : (s.setSel v).dramData = s.dramData := rfl
@[simp] theorem State.setSel_dram (v : SelCode) : (s.setSel v).dram = s.dram := rfl
@[simp] theorem State.setSel_prog (v : SelCode) : (s.setSel v).prog = s.prog := rfl
@[simp] theorem State.setSel_status (v : SelCode) : (s.setSel v).status = s.status := rfl
@[simp] theorem State.setSel_stopRequested (v : SelCode) : (s.setSel v).stopRequested = s.stopRequested := rfl
@[simp] theorem State.setSel_port (v : SelCode) : (s.setSel v).port = s.port := rfl

@[simp] theorem State.setA_cfg (v : Word) : (s.setA v).cfg = s.cfg := rfl
@[simp] theorem State.setA_pc (v : Word) : (s.setA v).pc = s.pc := rfl
@[simp] theorem State.setA_retAddr (v : Word) : (s.setA v).retAddr = s.retAddr := rfl
@[simp] theorem State.setA_lit (v : Word) : (s.setA v).lit = s.lit := rfl
@[simp] theorem State.setA_sel (v : Word) : (s.setA v).sel = s.sel := rfl
@[simp] theorem State.setA_a (v : Word) : (s.setA v).a = v := rfl
@[simp] theorem State.setA_b (v : Word) : (s.setA v).b = s.b := rfl
@[simp] theorem State.setA_carry (v : Word) : (s.setA v).carry = s.carry := rfl
@[simp] theorem State.setA_flags (v : Word) : (s.setA v).flags = s.flags := rfl
@[simp] theorem State.setA_cacheAddr (v : Word) : (s.setA v).cacheAddr = s.cacheAddr := rfl
@[simp] theorem State.setA_cacheData (v : Word) : (s.setA v).cacheData = s.cacheData := rfl
@[simp] theorem State.setA_cache (v : Word) : (s.setA v).cache = s.cache := rfl
@[simp] theorem State.setA_dramAddr (v : Word) : (s.setA v).dramAddr = s.dramAddr := rfl
@[simp] theorem State.setA_dramData (v : Word) : (s.setA v).dramData = s.dramData := rfl
@[simp] theorem State.setA_dram (v : Word) : (s.setA v).dram = s.dram := rfl
@[simp] theorem State.setA_prog (v : Word) : (s.setA v).prog = s.prog := rfl
@[simp] theorem State.setA_status (v : Word) : (s.setA v).status = s.status := rfl
@[simp] theorem State.setA_stopRequested (v : Word) : (s.setA v).stopRequested = s.stopRequested := rfl
@[simp] theorem State.setA_port (v : Word) : (s.setA v).port = s.port := rfl

@[simp] theorem State.setB_cfg (v : Word) : (s.setB v).cfg = s.cfg := rfl
@[simp] theorem State.setB_pc (v : Word) : (s.setB v).pc = s.pc := rfl
@[simp] theorem State.setB_retAddr (v : Word) : (s.setB v).retAddr = s.retAddr := rfl
@[simp] theorem State.setB_lit (v : Word) : (s.setB v).lit = s.lit := rfl
@[simp] theorem State.setB_sel (v : Word) : (s.setB v).sel = s.sel := rfl
@[simp] theorem State.setB_a (v : Word) : (s.setB v).a = s.a := rfl
@[simp] theorem State.setB_b (v : Word) : (s.setB v).b = v := rfl
@[simp] theorem State.setB_carry (v : Word) : (s.setB v).carry = s.carry := rfl
@[simp] theorem State.setB_flags (v : Word) : (s.setB v).flags = s.flags := rfl
@[simp] theorem State.setB_cacheAddr (v : Word) : (s.setB v).cacheAddr = s.cacheAddr := rfl
@[simp] theorem State.setB_cacheData (v : Word) : (s.setB v).cacheData = s.cacheData := rfl
@[simp] theorem State.setB_cache (v : Word) : (s.setB v).cache = s.cache := rfl
@[simp] theorem State.setB_dramAddr (v : Word) : (s.setB v).dramAddr = s.dramAddr := rfl
@[simp] theorem State.setB_dramData (v : Word) : (s.setB v).dramData = s.dramData := rfl
@[simp] theorem State.setB_dram (v : Word) : (s.setB v).dram = s.dram := rfl
@[simp] theorem State.setB_prog (v : Word) : (s.setB v).prog = s.prog := rfl
@[simp] theorem State.setB_status (v : Word) : (s.setB v).status = s.status := rfl
@[simp] theorem State.setB_stopRequested (v : Word) : (s.setB v).stopRequested = s.stopRequested := rfl
@[simp] theorem State.setB_port (v : Word) : (s.setB v).port = s.port := rfl

@[simp] theorem State.setCarry_cfg (v : Bool) : (s.setCarry v).cfg = s.cfg := rfl
@[simp] theorem State.setCarry_pc (v : Bool) : (s.setCarry v).pc = s.pc := rfl
@[simp] theorem State.setCarry_retAddr (v : Bool) : (s.setCarry v).retAddr = s.retAddr := rfl
@[simp] theorem State.setCarry_lit (v : Bool) : (s.setCarry v).lit = s.lit := rfl
@[simp] theorem State.setCarry_sel (v : Bool) : (s.setCarry v).sel = s.sel := rfl
@[simp] theorem State.setCarry_a (v : Bool) : (s.setCarry v).a = s.a := rfl
@[simp] theorem State.setCarry_b (v : Bool) : (s.setCarry v).b = s.b := rfl
@[simp] theorem State.setCarry_carry (v : Bool) : (s.setCarry v).carry = v := rfl
@[simp] theorem State.setCarry_flags (v : Bool) : (s.setCarry v).flags = s.flags := rfl
@[simp] theorem State.setCarry_cacheAddr (v : Bool) : (s.setCarry v).cacheAddr = s.cacheAddr := rfl
@[simp] theorem State.setCarry_cacheData (v : Bool) : (s.setCarry v).cacheData = s.cacheData := rfl
@[simp] theorem State.setCarry_cache (v : Bool) : (s.setCarry v).cache = s.cache := rfl
@[simp] theorem State.setCarry_dramAddr (v : Bool) : (s.setCarry v).dramAddr = s.dramAddr := rfl
@[simp] theorem State.setCarry_dramData (v : Bool) : (s.setCarry v).dramData = s.dramData := rfl
@[simp] theorem State.setCarry_dram (v : Bool) : (s.setCarry v).dram = s.dram := rfl
@[simp] theorem State.setCarry_prog (v : Bool) : (s.setCarry v).prog = s.prog := rfl
@[simp] theorem State.setCarry_status (v : Bool) : (s.setCarry v).status = s.status := rfl
@[simp] theorem State.setCarry_stopRequested (v : Bool) : (s.setCarry v).stopRequested = s.stopRequested := rfl
@[simp] theorem State.setCarry_port (v : Bool) : (s.setCarry v).port = s.port := rfl

@[simp] theorem State.setFlags_cfg (v : Word) : (s.setFlags v).cfg = s.cfg := rfl
@[simp] theorem State.setFlags_pc (v : Word) : (s.setFlags v).pc = s.pc := rfl
@[simp] theorem State.setFlags_retAddr (v : Word) : (s.setFlags v).retAddr = s.retAddr := rfl
@[simp] theorem State.setFlags_lit (v : Word) : (s.setFlags v).lit = s.lit := rfl
@[simp] theorem State.setFlags_sel (v : Word) : (s.setFlags v).sel = s.sel := rfl
@[simp] theorem State.setFlags_a (v : Word) : (s.setFlags v).a = s.a := rfl
@[simp] theorem State.setFlags_b (v : Word) : (s.setFlags v).b = s.b := rfl
@[simp] theorem State.setFlags_carry (v : Word) : (s.setFlags v).carry = s.carry := rfl
@[simp] theorem State.setFlags_flags (v : Word) : (s.setFlags v).flags = v := rfl
@[simp] theorem State.setFlags_cacheAddr (v : Word) : (s.setFlags v).cacheAddr = s.cacheAddr := rfl
@[simp] theorem State.setFlags_cacheData (v : Word) : (s.setFlags v).cacheData = s.cacheData := rfl
@[simp] theorem State.setFlags_cache (v : Word) : (s.setFlags v).cache = s.cache := rfl
@[simp] theorem State.setFlags_dramAddr (v : Word) : (s.setFlags v).dramAddr = s.dramAddr := rfl
@[simp] theorem State.setFlags_dramData (v : Word) : (s.setFlags v).dramData = s.dramData := rfl
@[simp] theorem State.setFlags_dram (v : Word) : (s.setFlags v).dram = s.dram := rfl
@[simp] theorem State.setFlags_prog (v : Word) : (s.setFlags v).prog = s.prog := rfl
@[simp] theorem State.setFlags_status (v : Word) : (s.setFlags v).status = s.status := rfl
@[simp] theorem State.setFlags_stopRequested (v : Word) : (s.setFlags v).stopRequested = s.stopRequested := rfl
@[simp] theorem State.setFlags_port (v : Word) : (s.setFlags v).port = s.port := rfl

@[simp] theorem State.setCacheAddr_cfg (v : Word) : (s.setCacheAddr v).cfg = s.cfg := rfl
@[simp] theorem State.setCacheAddr_pc (v : Word) : (s.setCacheAddr v).pc = s.pc := rfl
@[simp] theorem State.setCacheAddr_retAddr (v : Word) : (s.setCacheAddr v).retAddr = s.retAddr := rfl
@[simp] theorem State.setCacheAddr_lit (v : Word) : (s.setCacheAddr v).lit = s.lit := rfl
@[simp] theorem State.setCacheAddr_sel (v : Word) : (s.setCacheAddr v).sel = s.sel := rfl
@[simp] theorem State.setCacheAddr_a (v : Word) : (s.setCacheAddr v).a = s.a := rfl
@[simp] theorem State.setCacheAddr_b (v : Word) : (s.setCacheAddr v).b = s.b := rfl
@[simp] theorem State.setCacheAddr_carry (v : Word) : (s.setCacheAddr v).carry = s.carry := rfl
@[simp] theorem State.setCacheAddr_flags (v : Word) : (s.setCacheAddr v).flags = s.flags := rfl
@[simp] theorem State.setCacheAddr_cacheAddr (v : Word) : (s.setCacheAddr v).cacheAddr = v := rfl
@[simp] theorem State.setCacheAddr_cacheData (v : Word) : (s.setCacheAddr v).cacheData = s.cacheData := rfl
@[simp] theorem State.setCacheAddr_cache (v : Word) : (s.setCacheAddr v).cache = s.cache := rfl
@[simp] theorem State.setCacheAddr_dramAddr (v : Word) : (s.setCacheAddr v).dramAddr = s.dramAddr := rfl
@[simp] theorem State.setCacheAddr_dramData (v : Word) : (s.setCacheAddr v).dramData = s.dramData := rfl
@[simp] theorem State.setCacheAddr_dram (v : Word) : (s.setCacheAddr v).dram = s.dram := rfl
@[simp] theorem State.setCacheAddr_prog (v : Word) : (s.setCacheAddr v).prog = s.prog := rfl
@[simp] theorem State.setCacheAddr_status (v : Word) : (s.setCacheAddr v).status = s.status := rfl
@[simp] theorem State.setCacheAddr_stopRequested (v : Word) : (s.setCacheAddr v).stopRequested = s.stopRequested := rfl
@[simp] theorem State.setCacheAddr_port (v : Word) : (s.setCacheAddr v).port = s.port := rfl

@[simp] theorem State.setCacheData_cfg (v : Word) : (s.setCacheData v).cfg = s.cfg := rfl
@[simp] theorem State.setCacheData_pc (v : Word) : (s.setCacheData v).pc = s.pc := rfl
@[simp] theorem State.setCacheData_retAddr (v : Word) : (s.setCacheData v).retAddr = s.retAddr := rfl
@[simp] theorem State.setCacheData_lit (v : Word) : (s.setCacheData v).lit = s.lit := rfl
@[simp] theorem State.setCacheData_sel (v : Word) : (s.setCacheData v).sel = s.sel := rfl
@[simp] theorem State.setCacheData_a (v : Word) : (s.setCacheData v).a = s.a := rfl
@[simp] theorem State.setCacheData_b (v : Word) : (s.setCacheData v).b = s.b := rfl
@[simp] theorem State.setCacheData_carry (v : Word) : (s.setCacheData v).carry = s.carry := rfl
@[simp] theorem State.setCacheData_flags (v : Word) : (s.setCacheData v).flags = s.flags := rfl
@[simp] theorem State.setCacheData_cacheAddr (v : Word) : (s.setCacheData v).cacheAddr = s.cacheAddr := rfl
@[simp] theorem State.setCacheData_cacheData (v : Word) : (s.setCacheData v).cacheData = v := rfl
@[simp] theorem State.setCacheData_cache (v : Word) : (s.setCacheData v).cache = s.cache := rfl
@[simp] theorem State.setCacheData_dramAddr (v : Word) : (s.setCacheData v).dramAddr = s.dramAddr := rfl
@[simp] theorem State.setCacheData_dramData (v : Word) : (s.setCacheData v).dramData = s.dramData := rfl
@[simp] theorem State.setCacheData_dram (v : Word) : (s.setCacheData v).dram = s.dram := rfl
@[simp] theorem State.setCacheData_prog (v : Word) : (s.setCacheData v).prog = s.prog := rfl
@[simp] theorem State.setCacheData_status (v : Word) : (s.setCacheData v).status = s.status := rfl
@[simp] theorem State.setCacheData_stopRequested (v : Word) : (s.setCacheData v).stopRequested = s.stopRequested := rfl
@[simp] theorem State.setCacheData_port (v : Word) : (s.setCacheData v).port = s.port := rfl

@[simp] theorem State.setCache_cfg (v : Cells 32) : (s.setCache v).cfg = s.cfg := rfl
@[simp] theorem State.setCache_pc (v : Cells 32) : (s.setCache v).pc = s.pc := rfl
@[simp] theorem State.setCache_retAddr (v : Cells 32) : (s.setCache v).retAddr = s.retAddr := rfl
@[simp] theorem State.setCache_lit (v : Cells 32) : (s.setCache v).lit = s.lit := rfl
@[simp] theorem State.setCache_sel (v : Cells 32) : (s.setCache v).sel = s.sel := rfl
@[simp] theorem State.setCache_a (v : Cells 32) : (s.setCache v).a = s.a := rfl
@[simp] theorem State.setCache_b (v : Cells 32) : (s.setCache v).b = s.b := rfl
@[simp] theorem State.setCache_carry (v : Cells 32) : (s.setCache v).carry = s.carry := rfl
@[simp] theorem State.setCache_flags (v : Cells 32) : (s.setCache v).flags = s.flags := rfl
@[simp] theorem State.setCache_cacheAddr (v : Cells 32) : (s.setCache v).cacheAddr = s.cacheAddr := rfl
@[simp] theorem State.setCache_cacheData (v : Cells 32) : (s.setCache v).cacheData = s.cacheData := rfl
@[simp] theorem State.setCache_cache (v : Cells 32) : (s.setCache v).cache = v := rfl
@[simp] theorem State.setCache_dramAddr (v : Cells 32) : (s.setCache v).dramAddr = s.dramAddr := rfl
@[simp] theorem State.setCache_dramData (v : Cells 32) : (s.setCache v).dramData = s.dramData := rfl
@[simp] theorem State.setCache_dram (v : Cells 32) : (s.setCache v).dram = s.dram := rfl
@[simp] theorem State.setCache_prog (v : Cells 32) : (s.setCache v).prog = s.prog := rfl
@[simp] theorem State.setCache_status (v : Cells 32) : (s.setCache v).status = s.status := rfl
@[simp] theorem State.setCache_stopRequested (v : Cells 32) : (s.setCache v).stopRequested = s.stopRequested := rfl
@[simp] theorem State.setCache_port (v : Cells 32) : (s.setCache v).port = s.port := rfl

@[simp] theorem State.setDramAddr_cfg (v : Word) : (s.setDramAddr v).cfg = s.cfg := rfl
@[simp] theorem State.setDramAddr_pc (v : Word) : (s.setDramAddr v).pc = s.pc := rfl
@[simp] theorem State.setDramAddr_retAddr (v : Word) : (s.setDramAddr v).retAddr = s.retAddr := rfl
@[simp] theorem State.setDramAddr_lit (v : Word) : (s.setDramAddr v).lit = s.lit := rfl
@[simp] theorem State.setDramAddr_sel (v : Word) : (s.setDramAddr v).sel = s.sel := rfl
@[simp] theorem State.setDramAddr_a (v : Word) : (s.setDramAddr v).a = s.a := rfl
@[simp] theorem State.setDramAddr_b (v : Word) : (s.setDramAddr v).b = s.b := rfl
@[simp] theorem State.setDramAddr_carry (v : Word) : (s.setDramAddr v).carry = s.carry := rfl
@[simp] theorem State.setDramAddr_flags (v : Word) : (s.setDramAddr v).flags = s.flags := rfl
@[simp] theorem State.setDramAddr_cacheAddr (v : Word) : (s.setDramAddr v).cacheAddr = s.cacheAddr := rfl
@[simp] theorem State.setDramAddr_cacheData (v : Word) : (s.setDramAddr v).cacheData = s.cacheData := rfl
@[simp] theorem State.setDramAddr_cache (v : Word) : (s.setDramAddr v).cache = s.cache := rfl
@[simp] theorem State.setDramAddr_dramAddr (v : Word) : (s.setDramAddr v).dramAddr = v := rfl
@[simp] theorem State.setDramAddr_dramData (v : Word) : (s.setDramAddr v).dramData = s.dramData := rfl
@[simp] theorem State.setDramAddr_dram (v : Word) : (s.setDramAddr v).dram = s.dram := rfl
@[simp] theorem State.setDramAddr_prog (v : Word) : (s.setDramAddr v).prog = s.prog := rfl
@[simp] theorem State.setDramAddr_status (v : Word) : (s.setDramAddr v).status = s.status := rfl
@[simp] theorem State.setDramAddr_stopRequested (v : Word) : (s.setDramAddr v).stopRequested = s.stopRequested := rfl
@[simp] theorem State.setDramAddr_port (v : Word) : (s.setDramAddr v).port = s.port := rfl

@[simp] theorem State.setDramData_cfg (v : Word) : (s.setDramData v).cfg = s.cfg := rfl
@[simp] theorem State.setDramData_pc (v : Word) : (s.setDramData v).pc = s.pc := rfl
@[simp] theorem State.setDramData_retAddr (v : Word) : (s.setDramData v).retAddr = s.retAddr := rfl
@[simp] theorem State.setDramData_lit (v : Word) : (s.setDramData v).lit = s.lit := rfl
@[simp] theorem State.setDramData_sel (v : Word) : (s.setDramData v).sel = s.sel := rfl
@[simp] theorem State.setDramData_a (v : Word) : (s.setDramData v).a = s.a := rfl
@[simp] theorem State.setDramData_b (v : Word) : (s.setDramData v).b = s.b := rfl
@[simp] theorem State.setDramData_carry (v : Word) : (s.setDramData v).carry = s.carry := rfl
@[simp] theorem State.setDramData_flags (v : Word) : (s.setDramData v).flags = s.flags := rfl
@[simp] theorem State.setDramData_cacheAddr (v : Word) : (s.setDramData v).cacheAddr = s.cacheAddr := rfl
@[simp] theorem State.setDramData_cacheData (v : Word) : (s.setDramData v).cacheData = s.cacheData := rfl
@[simp] theorem State.setDramData_cache (v : Word) : (s.setDramData v).cache = s.cache := rfl
@[simp] theorem State.setDramData_dramAddr (v : Word) : (s.setDramData v).dramAddr = s.dramAddr := rfl
@[simp] theorem State.setDramData_dramData (v : Word) : (s.setDramData v).dramData = v := rfl
@[simp] theorem State.setDramData_dram (v : Word) : (s.setDramData v).dram = s.dram := rfl
@[simp] theorem State.setDramData_prog (v : Word) : (s.setDramData v).prog = s.prog := rfl
@[simp] theorem State.setDramData_status (v : Word) : (s.setDramData v).status = s.status := rfl
@[simp] theorem State.setDramData_stopRequested (v : Word) : (s.setDramData v).stopRequested = s.stopRequested := rfl
@[simp] theorem State.setDramData_port (v : Word) : (s.setDramData v).port = s.port := rfl

@[simp] theorem State.setDram_cfg (v : Cells 32) : (s.setDram v).cfg = s.cfg := rfl
@[simp] theorem State.setDram_pc (v : Cells 32) : (s.setDram v).pc = s.pc := rfl
@[simp] theorem State.setDram_retAddr (v : Cells 32) : (s.setDram v).retAddr = s.retAddr := rfl
@[simp] theorem State.setDram_lit (v : Cells 32) : (s.setDram v).lit = s.lit := rfl
@[simp] theorem State.setDram_sel (v : Cells 32) : (s.setDram v).sel = s.sel := rfl
@[simp] theorem State.setDram_a (v : Cells 32) : (s.setDram v).a = s.a := rfl
@[simp] theorem State.setDram_b (v : Cells 32) : (s.setDram v).b = s.b := rfl
@[simp] theorem State.setDram_carry (v : Cells 32) : (s.setDram v).carry = s.carry := rfl
@[simp] theorem State.setDram_flags (v : Cells 32) : (s.setDram v).flags = s.flags := rfl
@[simp] theorem State.setDram_cacheAddr (v : Cells 32) : (s.setDram v).cacheAddr = s.cacheAddr := rfl
@[simp] theorem State.setDram_cacheData (v : Cells 32) : (s.setDram v).cacheData = s.cacheData := rfl
@[simp] theorem State.setDram_cache (v : Cells 32) : (s.setDram v).cache = s.cache := rfl
@[simp] theorem State.setDram_dramAddr (v : Cells 32) : (s.setDram v).dramAddr = s.dramAddr := rfl
@[simp] theorem State.setDram_dramData (v : Cells 32) : (s.setDram v).dramData = s.dramData := rfl
@[simp] theorem State.setDram_dram (v : Cells 32) : (s.setDram v).dram = v := rfl
@[simp] theorem State.setDram_prog (v : Cells 32) : (s.setDram v).prog = s.prog := rfl
@[simp] theorem State.setDram_status (v : Cells 32) : (s.setDram v).status = s.status := rfl
@[simp] theorem State.setDram_stopRequested (v : Cells 32) : (s.setDram v).stopRequested = s.stopRequested := rfl
@[simp] theorem State.setDram_port (v : Cells 32) : (s.setDram v).port = s.port := rfl

@[simp] theorem State.setProg_cfg (v : Cells 24) : (s.setProg v).cfg = s.cfg := rfl
@[simp] theorem State.setProg_pc (v : Cells 24) : (s.setProg v).pc = s.pc := rfl
@[simp] theorem State.setProg_retAddr (v : Cells 24) : (s.setProg v).retAddr = s.retAddr := rfl
@[simp] theorem State.setProg_lit (v : Cells 24) : (s.setProg v).lit = s.lit := rfl
@[simp] theorem State.setProg_sel (v : Cells 24) : (s.setProg v).sel = s.sel := rfl
@[simp] theorem State.setProg_a (v : Cells 24) : (s.setProg v).a = s.a := rfl
@[simp] theorem State.setProg_b (v : Cells 24) : (s.setProg v).b = s.b := rfl
@[simp] theorem State.setProg_carry (v : Cells 24) : (s.setProg v).carry = s.carry := rfl
@[simp] theorem State.setProg_flags (v : Cells 24) : (s.setProg v).flags = s.flags := rfl
@[simp] theorem State.setProg_cacheAddr (v : Cells 24) : (s.setProg v).cacheAddr = s.cacheAddr := rfl
@[simp] theorem State.setProg_cacheData (v : Cells 24) : (s.setProg v).cacheData = s.cacheData := rfl
@[simp] theorem State.setProg_cache (v : Cells 24) : (s.setProg v).cache = s.cache := rfl
@[simp] theorem State.setProg_dramAddr (v : Cells 24) : (s.setProg v).dramAddr = s.dramAddr := rfl
@[simp] theorem State.setProg_dramData (v : Cells 24) : (s.setProg v).dramData = s.dramData := rfl
@[simp] theorem State.setProg_dram (v : Cells 24) : (s.setProg v).dram = s.dram := rfl
@[simp] theorem State.setProg_prog (v : Cells 24) : (s.setProg v).prog = v := rfl
@[simp] theorem State.setProg_status (v : Cells 24) : (s.setProg v).status = s.status := rfl
@[simp] theorem State.setProg_stopRequested (v : Cells 24) : (s.setProg v).stopRequested = s.stopRequested := rfl
@[simp] theorem State.setProg_port (v : Cells 24) : (s.setProg v).port = s.port := rfl

@[simp] theorem State.setStatus_cfg (v : Status) : (s.setStatus v).cfg = s.cfg := rfl
@[simp] theorem State.setStatus_pc (v : Status) : (s.setStatus v).pc = s.pc := rfl
@[simp] theorem State.setStatus_retAddr (v : Status) : (s.setStatus v).retAddr = s.retAddr := rfl
@[simp] theorem State.setStatus_lit (v : Status) : (s.setStatus v).lit = s.lit := rfl
@[simp] theorem State.setStatus_sel (v : Status) : (s.setStatus v).sel = s.sel := rfl
@[simp] theorem State.setStatus_a (v : Status) : (s.setStatus v).a = s.a := rfl
@[simp] theorem State.setStatus_b (v : Status) : (s.setStatus v).b = s.b := rfl
@[simp] theorem State.setStatus_carry (v : Status) : (s.setStatus v).carry = s.carry := rfl
@[simp] theorem State.setStatus_flags (v : Status) : (s.setStatus v).flags = s.flags := rfl
@[simp] theorem State.setStatus_cacheAddr (v : Status) : (s.setStatus v).cacheAddr = s.cacheAddr := rfl
@[simp] theorem State.setStatus_cacheData (v : Status) : (s.setStatus v).cacheData = s.cacheData := rfl
@[simp] theorem State.setStatus_cache (v : Status) : (s.setStatus v).cache = s.cache := rfl
@[simp] theorem State.setStatus_dramAddr (v : Status) : (s.setStatus v).dramAddr = s.dramAddr := rfl
@[simp] theorem State.setStatus_dramData (v : Status) : (s.setStatus v).dramData = s.dramData := rfl
@[simp] theorem State.setStatus_dram (v : Status) : (s.setStatus v).dram = s.dram := rfl
@[simp] theorem State.setStatus_prog (v : Status) : (s.setStatus v).prog = s.prog := rfl
@[simp] theorem State.setStatus_status (v : Status) : (s.setStatus v).status = v := rfl
@[simp] theorem State.setStatus_stopRequested (v : Status) : (s.setStatus v).stopRequested = s.stopRequested := rfl
@[simp] theorem State.setStatus_port (v : Status) : (s.setStatus v).port = s.port := rfl

@[simp] theorem State.setStop_cfg (v : Bool) : (s.setStop v).cfg = s.cfg := rfl
@[simp] theorem State.setStop_pc (v : Bool) : (s.setStop v).pc = s.pc := rfl
@[simp] theorem State.setStop_retAddr (v : Bool) : (s.setStop v).retAddr = s.retAddr := rfl
@[simp] theorem State.setStop_lit (v : Bool) : (s.setStop v).lit = s.lit := rfl
@[simp] theorem State.setStop_sel (v : Bool) : (s.setStop v).sel = s.sel := rfl
@[simp] theorem State.setStop_a (v : Bool) : (s.setStop v).a = s.a := rfl
@[simp] theorem State.setStop_b (v : Bool) : (s.setStop v).b = s.b := rfl
@[simp] theorem State.setStop_carry (v : Bool) : (s.setStop v).carry = s.carry := rfl
@[simp] theorem State.setStop_flags (v : Bool) : (s.setStop v).flags = s.flags := rfl
@[simp] theorem State.setStop_cacheAddr (v : Bool) : (s.setStop v).cacheAddr = s.cacheAddr := rfl
@[simp] theorem State.setStop_cacheData (v : Bool) : (s.setStop v).cacheData = s.cacheData := rfl
@[simp] theorem State.setStop_cache (v : Bool) : (s.setStop v).cache = s.cache := rfl
@[simp] theorem State.setStop_dramAddr (v : Bool) : (s.setStop v).dramAddr = s.dramAddr := rfl
@[simp] theorem State.setStop_dramData (v : Bool) : (s.setStop v).dramData = s.dramData := rfl
@[simp] theorem State.setStop_dram (v : Bool) : (s.setStop v).dram = s.dram := rfl
@[simp] theorem State.setStop_prog (v : Bool) : (s.setStop v).prog = s.prog := rfl
@[simp] theorem State.setStop_status (v : Bool) : (s.setStop v).status = s.status := rfl
@[simp] theorem State.setStop_stopRequested (v : Bool) : (s.setStop v).stopRequested = v := rfl
@[simp] theorem State.setStop_port (v : Bool) : (s.setStop v).port = s.port := rfl

@[simp] theorem State.setPort_cfg (v : List DevEvent) : (s.setPort v).cfg = s.cfg := rfl
@[simp] theorem State.setPort_pc (v : List DevEvent) : (s.setPort v).pc = s.pc := rfl
@[simp] theorem State.setPort_retAddr (v : List DevEvent) : (s.setPort v).retAddr = s.retAddr := rfl
@[simp] theorem State.setPort_lit (v : List DevEvent) : (s.setPort v).lit = s.lit := rfl
@[simp] theorem State.setPort_sel (v : List DevEvent) : (s.setPort v).sel = s.sel := rfl
@[simp] theorem State.setPort_a (v : List DevEvent) : (s.setPort v).a = s.a := rfl
@[simp] theorem State.setPort_b (v : List DevEvent) : (s.setPort v).b = s.b := rfl
@[simp] theorem State.setPort_carry (v : List DevEvent) : (s.setPort v).carry = s.carry := rfl
@[simp] theorem State.setPort_flags (v : List DevEvent) : (s.setPort v).flags = s.flags := rfl
@[simp] theorem State.setPort_cacheAddr (v : List DevEvent) : (s.setPort v).cacheAddr = s.cacheAddr := rfl
@[simp] theorem State.setPort_cacheData (v : List DevEvent) : (s.setPort v).cacheData = s.cacheData := rfl
@[simp] theorem State.setPort_cache (v : List DevEvent) : (s.setPort v).cache = s.cache := rfl
@[simp] theorem State.setPort_dramAddr (v : List DevEvent) : (s.setPort v).dramAddr = s.dramAddr := rfl
@[simp] theorem State.setPort_dramData (v : List DevEvent) : (s.setPort v).dramData = s.dramData := rfl
@[simp] theorem State.setPort_dram (v : List DevEvent) : (s.setPort v).dram = s.dram := rfl
@[simp] theorem State.setPort_prog (v : List DevEvent) : (s.setPort v).prog = s.prog := rfl
@[simp] theorem State.setPort_status (v : List DevEvent) : (s.setPort v).status = s.status := rfl
@[simp] theorem State.setPort_stopRequested (v : List DevEvent) : (s.setPort v).stopRequested = s.stopRequested := rfl
@[simp] theorem State.setPort_port (v : List DevEvent) : (s.setPort v).port = v := rfl

variable (cfg : Config) (draw : ResetDraw)

@[simp] theorem State.resetWith_cfg : (State.resetWith cfg draw).cfg = cfg := rfl
@[simp] theorem State.resetWith_pc : (State.resetWith cfg draw).pc = 0 := rfl
@[simp] theorem State.resetWith_retAddr : (State.resetWith cfg draw).retAddr = 0 := rfl
@[simp] theorem State.resetWith_lit : (State.resetWith cfg draw).lit = draw.lit := rfl
@[simp] theorem State.resetWith_sel : (State.resetWith cfg draw).sel = cfg.selectorMap.code .lit := rfl
@[simp] theorem State.resetWith_a : (State.resetWith cfg draw).a = draw.a := rfl
@[simp] theorem State.resetWith_b : (State.resetWith cfg draw).b = draw.b := rfl
@[simp] theorem State.resetWith_carry : (State.resetWith cfg draw).carry = draw.carry := rfl
@[simp] theorem State.resetWith_flags : (State.resetWith cfg draw).flags = draw.flags := rfl
@[simp] theorem State.resetWith_cacheAddr : (State.resetWith cfg draw).cacheAddr = draw.cacheAddr := rfl
@[simp] theorem State.resetWith_cacheData : (State.resetWith cfg draw).cacheData = draw.cacheData := rfl
@[simp] theorem State.resetWith_cache : (State.resetWith cfg draw).cache = draw.cache := rfl
@[simp] theorem State.resetWith_dramAddr : (State.resetWith cfg draw).dramAddr = draw.dramAddr := rfl
@[simp] theorem State.resetWith_dramData : (State.resetWith cfg draw).dramData = draw.dramData := rfl
@[simp] theorem State.resetWith_dram : (State.resetWith cfg draw).dram = draw.dram := rfl
@[simp] theorem State.resetWith_prog : (State.resetWith cfg draw).prog = draw.prog := rfl
@[simp] theorem State.resetWith_status : (State.resetWith cfg draw).status = .running := rfl
@[simp] theorem State.resetWith_stopRequested : (State.resetWith cfg draw).stopRequested = false := rfl
@[simp] theorem State.resetWith_port : (State.resetWith cfg draw).port = [] := rfl

end Sys2Proof.Machine
end

