-- ==== Sys2Proof/Laws/Ops.lean ====
section
/-! SUPPORT. For each shared operation over the state, what it leaves in every field; and for the operations that answer an
outcome, everything they can answer. -/

namespace Sys2Proof.Machine

variable (s : State)

@[simp] theorem afterFetch_cfg (d : Imm) : (afterFetch d s).cfg = s.cfg := rfl
@[simp] theorem afterFetch_pc (d : Imm) : (afterFetch d s).pc = s.pc + 1 := rfl
@[simp] theorem afterFetch_retAddr (d : Imm) : (afterFetch d s).retAddr = s.retAddr := rfl
@[simp] theorem afterFetch_lit (d : Imm) : (afterFetch d s).lit = foldLow s.lit d := rfl
@[simp] theorem afterFetch_sel (d : Imm) : (afterFetch d s).sel = s.sel := rfl
@[simp] theorem afterFetch_a (d : Imm) : (afterFetch d s).a = s.a := rfl
@[simp] theorem afterFetch_b (d : Imm) : (afterFetch d s).b = s.b := rfl
@[simp] theorem afterFetch_carry (d : Imm) : (afterFetch d s).carry = s.carry := rfl
@[simp] theorem afterFetch_flags (d : Imm) : (afterFetch d s).flags = s.flags := rfl
@[simp] theorem afterFetch_cacheAddr (d : Imm) : (afterFetch d s).cacheAddr = s.cacheAddr := rfl
@[simp] theorem afterFetch_cacheData (d : Imm) : (afterFetch d s).cacheData = s.cacheData := rfl
@[simp] theorem afterFetch_cache (d : Imm) : (afterFetch d s).cache = s.cache := rfl
@[simp] theorem afterFetch_dramAddr (d : Imm) : (afterFetch d s).dramAddr = s.dramAddr := rfl
@[simp] theorem afterFetch_dramData (d : Imm) : (afterFetch d s).dramData = s.dramData := rfl
@[simp] theorem afterFetch_dram (d : Imm) : (afterFetch d s).dram = s.dram := rfl
@[simp] theorem afterFetch_prog (d : Imm) : (afterFetch d s).prog = s.prog := rfl
@[simp] theorem afterFetch_status (d : Imm) : (afterFetch d s).status = s.status := rfl
@[simp] theorem afterFetch_stopRequested (d : Imm) : (afterFetch d s).stopRequested = s.stopRequested := rfl
@[simp] theorem afterFetch_port (d : Imm) : (afterFetch d s).port = s.port := rfl

@[simp] theorem emit_cfg (kind : DeviceKind) (v : Word) : (emit kind v s).cfg = s.cfg := rfl
@[simp] theorem emit_pc (kind : DeviceKind) (v : Word) : (emit kind v s).pc = s.pc := rfl
@[simp] theorem emit_retAddr (kind : DeviceKind) (v : Word) : (emit kind v s).retAddr = s.retAddr := rfl
@[simp] theorem emit_lit (kind : DeviceKind) (v : Word) : (emit kind v s).lit = s.lit := rfl
@[simp] theorem emit_sel (kind : DeviceKind) (v : Word) : (emit kind v s).sel = s.sel := rfl
@[simp] theorem emit_a (kind : DeviceKind) (v : Word) : (emit kind v s).a = s.a := rfl
@[simp] theorem emit_b (kind : DeviceKind) (v : Word) : (emit kind v s).b = s.b := rfl
@[simp] theorem emit_carry (kind : DeviceKind) (v : Word) : (emit kind v s).carry = s.carry := rfl
@[simp] theorem emit_flags (kind : DeviceKind) (v : Word) : (emit kind v s).flags = s.flags := rfl
@[simp] theorem emit_cacheAddr (kind : DeviceKind) (v : Word) : (emit kind v s).cacheAddr = s.cacheAddr := rfl
@[simp] theorem emit_cacheData (kind : DeviceKind) (v : Word) : (emit kind v s).cacheData = s.cacheData := rfl
@[simp] theorem emit_cache (kind : DeviceKind) (v : Word) : (emit kind v s).cache = s.cache := rfl
@[simp] theorem emit_dramAddr (kind : DeviceKind) (v : Word) : (emit kind v s).dramAddr = s.dramAddr := rfl
@[simp] theorem emit_dramData (kind : DeviceKind) (v : Word) : (emit kind v s).dramData = s.dramData := rfl
@[simp] theorem emit_dram (kind : DeviceKind) (v : Word) : (emit kind v s).dram = s.dram := rfl
@[simp] theorem emit_prog (kind : DeviceKind) (v : Word) : (emit kind v s).prog = s.prog := rfl
@[simp] theorem emit_status (kind : DeviceKind) (v : Word) : (emit kind v s).status = s.status := rfl
@[simp] theorem emit_stopRequested (kind : DeviceKind) (v : Word) : (emit kind v s).stopRequested = s.stopRequested := rfl
@[simp] theorem emit_port (kind : DeviceKind) (v : Word) : (emit kind v s).port = s.port ++ [⟨kind, v⟩] := rfl

@[simp] theorem raise_cfg (r : FaultRecord) : (raise r s).cfg = s.cfg := rfl
@[simp] theorem raise_pc (r : FaultRecord) : (raise r s).pc = s.pc := rfl
@[simp] theorem raise_retAddr (r : FaultRecord) : (raise r s).retAddr = s.retAddr := rfl
@[simp] theorem raise_lit (r : FaultRecord) : (raise r s).lit = s.lit := rfl
@[simp] theorem raise_sel (r : FaultRecord) : (raise r s).sel = s.sel := rfl
@[simp] theorem raise_a (r : FaultRecord) : (raise r s).a = s.a := rfl
@[simp] theorem raise_b (r : FaultRecord) : (raise r s).b = s.b := rfl
@[simp] theorem raise_carry (r : FaultRecord) : (raise r s).carry = s.carry := rfl
@[simp] theorem raise_flags (r : FaultRecord) : (raise r s).flags = s.flags := rfl
@[simp] theorem raise_cacheAddr (r : FaultRecord) : (raise r s).cacheAddr = s.cacheAddr := rfl
@[simp] theorem raise_cacheData (r : FaultRecord) : (raise r s).cacheData = s.cacheData := rfl
@[simp] theorem raise_cache (r : FaultRecord) : (raise r s).cache = s.cache := rfl
@[simp] theorem raise_dramAddr (r : FaultRecord) : (raise r s).dramAddr = s.dramAddr := rfl
@[simp] theorem raise_dramData (r : FaultRecord) : (raise r s).dramData = s.dramData := rfl
@[simp] theorem raise_dram (r : FaultRecord) : (raise r s).dram = s.dram := rfl
@[simp] theorem raise_prog (r : FaultRecord) : (raise r s).prog = s.prog := rfl
@[simp] theorem raise_status (r : FaultRecord) : (raise r s).status = .faulted r := rfl
@[simp] theorem raise_stopRequested (r : FaultRecord) : (raise r s).stopRequested = s.stopRequested := rfl
@[simp] theorem raise_port (r : FaultRecord) : (raise r s).port = s.port := rfl

@[simp] theorem raiseFetchOutOfRange_cfg : (raiseFetchOutOfRange s).cfg = s.cfg := rfl
@[simp] theorem raiseFetchOutOfRange_pc : (raiseFetchOutOfRange s).pc = s.pc := rfl
@[simp] theorem raiseFetchOutOfRange_retAddr : (raiseFetchOutOfRange s).retAddr = s.retAddr := rfl
@[simp] theorem raiseFetchOutOfRange_lit : (raiseFetchOutOfRange s).lit = s.lit := rfl
@[simp] theorem raiseFetchOutOfRange_sel : (raiseFetchOutOfRange s).sel = s.sel := rfl
@[simp] theorem raiseFetchOutOfRange_a : (raiseFetchOutOfRange s).a = s.a := rfl
@[simp] theorem raiseFetchOutOfRange_b : (raiseFetchOutOfRange s).b = s.b := rfl
@[simp] theorem raiseFetchOutOfRange_carry : (raiseFetchOutOfRange s).carry = s.carry := rfl
@[simp] theorem raiseFetchOutOfRange_flags : (raiseFetchOutOfRange s).flags = s.flags := rfl
@[simp] theorem raiseFetchOutOfRange_cacheAddr : (raiseFetchOutOfRange s).cacheAddr = s.cacheAddr := rfl
@[simp] theorem raiseFetchOutOfRange_cacheData : (raiseFetchOutOfRange s).cacheData = s.cacheData := rfl
@[simp] theorem raiseFetchOutOfRange_cache : (raiseFetchOutOfRange s).cache = s.cache := rfl
@[simp] theorem raiseFetchOutOfRange_dramAddr : (raiseFetchOutOfRange s).dramAddr = s.dramAddr := rfl
@[simp] theorem raiseFetchOutOfRange_dramData : (raiseFetchOutOfRange s).dramData = s.dramData := rfl
@[simp] theorem raiseFetchOutOfRange_dram : (raiseFetchOutOfRange s).dram = s.dram := rfl
@[simp] theorem raiseFetchOutOfRange_prog : (raiseFetchOutOfRange s).prog = s.prog := rfl
@[simp] theorem raiseFetchOutOfRange_status : (raiseFetchOutOfRange s).status = .faulted (.fetchOutOfRange s.pc) := rfl
@[simp] theorem raiseFetchOutOfRange_stopRequested : (raiseFetchOutOfRange s).stopRequested = s.stopRequested := rfl
@[simp] theorem raiseFetchOutOfRange_port : (raiseFetchOutOfRange s).port = s.port := rfl

@[simp] theorem raiseUnknownOpcode_cfg (w : ProgWord) : (raiseUnknownOpcode w s).cfg = s.cfg := rfl
@[simp] theorem raiseUnknownOpcode_pc (w : ProgWord) : (raiseUnknownOpcode w s).pc = s.pc + 1 := rfl
@[simp] theorem raiseUnknownOpcode_retAddr (w : ProgWord) : (raiseUnknownOpcode w s).retAddr = s.retAddr := rfl
@[simp] theorem raiseUnknownOpcode_lit (w : ProgWord) : (raiseUnknownOpcode w s).lit = foldLow s.lit (dataOf w) := rfl
@[simp] theorem raiseUnknownOpcode_sel (w : ProgWord) : (raiseUnknownOpcode w s).sel = s.sel := rfl
@[simp] theorem raiseUnknownOpcode_a (w : ProgWord) : (raiseUnknownOpcode w s).a = s.a := rfl
@[simp] theorem raiseUnknownOpcode_b (w : ProgWord) : (raiseUnknownOpcode w s).b = s.b := rfl
@[simp] theorem raiseUnknownOpcode_carry (w : ProgWord) : (raiseUnknownOpcode w s).carry = s.carry := rfl
@[simp] theorem raiseUnknownOpcode_flags (w : ProgWord) : (raiseUnknownOpcode w s).flags = s.flags := rfl
@[simp] theorem raiseUnknownOpcode_cacheAddr (w : ProgWord) : (raiseUnknownOpcode w s).cacheAddr = s.cacheAddr := rfl
@[simp] theorem raiseUnknownOpcode_cacheData (w : ProgWord) : (raiseUnknownOpcode w s).cacheData = s.cacheData := rfl
@[simp] theorem raiseUnknownOpcode_cache (w : ProgWord) : (raiseUnknownOpcode w s).cache = s.cache := rfl
@[simp] theorem raiseUnknownOpcode_dramAddr (w : ProgWord) : (raiseUnknownOpcode w s).dramAddr = s.dramAddr := rfl
@[simp] theorem raiseUnknownOpcode_dramData (w : ProgWord) : (raiseUnknownOpcode w s).dramData = s.dramData := rfl
@[simp] theorem raiseUnknownOpcode_dram (w : ProgWord) : (raiseUnknownOpcode w s).dram = s.dram := rfl
@[simp] theorem raiseUnknownOpcode_prog (w : ProgWord) : (raiseUnknownOpcode w s).prog = s.prog := rfl
@[simp] theorem raiseUnknownOpcode_status (w : ProgWord) : (raiseUnknownOpcode w s).status = .faulted (.unknownOpcode (typeOf w)) := rfl
@[simp] theorem raiseUnknownOpcode_stopRequested (w : ProgWord) : (raiseUnknownOpcode w s).stopRequested = s.stopRequested := rfl
@[simp] theorem raiseUnknownOpcode_port (w : ProgWord) : (raiseUnknownOpcode w s).port = s.port := rfl

@[simp] theorem takeStop_cfg : (takeStop s).cfg = s.cfg := rfl
@[simp] theorem takeStop_pc : (takeStop s).pc = s.pc := rfl
@[simp] theorem takeStop_retAddr : (takeStop s).retAddr = s.retAddr := rfl
@[simp] theorem takeStop_lit : (takeStop s).lit = s.lit := rfl
@[simp] theorem takeStop_sel : (takeStop s).sel = s.sel := rfl
@[simp] theorem takeStop_a : (takeStop s).a = s.a := rfl
@[simp] theorem takeStop_b : (takeStop s).b = s.b := rfl
@[simp] theorem takeStop_carry : (takeStop s).carry = s.carry := rfl
@[simp] theorem takeStop_flags : (takeStop s).flags = s.flags := rfl
@[simp] theorem takeStop_cacheAddr : (takeStop s).cacheAddr = s.cacheAddr := rfl
@[simp] theorem takeStop_cacheData : (takeStop s).cacheData = s.cacheData := rfl
@[simp] theorem takeStop_cache : (takeStop s).cache = s.cache := rfl
@[simp] theorem takeStop_dramAddr : (takeStop s).dramAddr = s.dramAddr := rfl
@[simp] theorem takeStop_dramData : (takeStop s).dramData = s.dramData := rfl
@[simp] theorem takeStop_dram : (takeStop s).dram = s.dram := rfl
@[simp] theorem takeStop_prog : (takeStop s).prog = s.prog := rfl
@[simp] theorem takeStop_status : (takeStop s).status = .stopped := rfl
@[simp] theorem takeStop_stopRequested : (takeStop s).stopRequested = s.stopRequested := rfl
@[simp] theorem takeStop_port : (takeStop s).port = s.port := rfl

@[simp] theorem commitCache_cfg : (commitCache s).cfg = s.cfg := rfl
@[simp] theorem commitCache_pc : (commitCache s).pc = s.pc := rfl
@[simp] theorem commitCache_retAddr : (commitCache s).retAddr = s.retAddr := rfl
@[simp] theorem commitCache_lit : (commitCache s).lit = s.lit := rfl
@[simp] theorem commitCache_sel : (commitCache s).sel = s.sel := rfl
@[simp] theorem commitCache_a : (commitCache s).a = s.a := rfl
@[simp] theorem commitCache_b : (commitCache s).b = s.b := rfl
@[simp] theorem commitCache_carry : (commitCache s).carry = s.carry := rfl
@[simp] theorem commitCache_flags : (commitCache s).flags = s.flags := rfl
@[simp] theorem commitCache_cacheAddr : (commitCache s).cacheAddr = s.cacheAddr := rfl
@[simp] theorem commitCache_cacheData : (commitCache s).cacheData = s.cacheData := rfl
@[simp] theorem commitCache_cache : (commitCache s).cache = writeWord s.cache (cacheIndex s) s.cacheData := rfl
@[simp] theorem commitCache_dramAddr : (commitCache s).dramAddr = s.dramAddr := rfl
@[simp] theorem commitCache_dramData : (commitCache s).dramData = s.dramData := rfl
@[simp] theorem commitCache_dram : (commitCache s).dram = s.dram := rfl
@[simp] theorem commitCache_prog : (commitCache s).prog = s.prog := rfl
@[simp] theorem commitCache_status : (commitCache s).status = s.status := rfl
@[simp] theorem commitCache_stopRequested : (commitCache s).stopRequested = s.stopRequested := rfl
@[simp] theorem commitCache_port : (commitCache s).port = s.port := rfl

@[simp] theorem commitDram_cfg : (commitDram s).cfg = s.cfg := rfl
@[simp] theorem commitDram_pc : (commitDram s).pc = s.pc := rfl
@[simp] theorem commitDram_retAddr : (commitDram s).retAddr = s.retAddr := rfl
@[simp] theorem commitDram_lit : (commitDram s).lit = s.lit := rfl
@[simp] theorem commitDram_sel : (commitDram s).sel = s.sel := rfl
@[simp] theorem commitDram_a : (commitDram s).a = s.a := rfl
@[simp] theorem commitDram_b : (commitDram s).b = s.b := rfl
@[simp] theorem commitDram_carry : (commitDram s).carry = s.carry := rfl
@[simp] theorem commitDram_flags : (commitDram s).flags = s.flags := rfl
@[simp] theorem commitDram_cacheAddr : (commitDram s).cacheAddr = s.cacheAddr := rfl
@[simp] theorem commitDram_cacheData : (commitDram s).cacheData = s.cacheData := rfl
@[simp] theorem commitDram_cache : (commitDram s).cache = s.cache := rfl
@[simp] theorem commitDram_dramAddr : (commitDram s).dramAddr = s.dramAddr := rfl
@[simp] theorem commitDram_dramData : (commitDram s).dramData = s.dramData := rfl
@[simp] theorem commitDram_dram : (commitDram s).dram = writeWord s.dram (dramIndex s) s.dramData := rfl
@[simp] theorem commitDram_prog : (commitDram s).prog = s.prog := rfl
@[simp] theorem commitDram_status : (commitDram s).status = s.status := rfl
@[simp] theorem commitDram_stopRequested : (commitDram s).stopRequested = s.stopRequested := rfl
@[simp] theorem commitDram_port : (commitDram s).port = s.port := rfl

/-- The fold as arithmetic: the high half stays, the immediate is the low half (R82). -/
theorem foldLow_toNat (lit : Word) (d : Imm) :
    (foldLow lit d).toNat = lit.toNat / 65536 * 65536 + d.toNat := by
  have h := BitVec.toNat_append (lit.extractLsb' 16 16) d
  have hl := lit.isLt
  refine h.trans ?_
  rw [← Nat.shiftLeft_add_eq_or_of_lt d.isLt, Nat.shiftLeft_eq, BitVec.extractLsb'_toNat, Nat.shiftRight_eq_div_pow]
  omega

/-- Setting the high half as arithmetic: the low half stays (R86). -/
theorem setHigh_toNat (lit : Word) (d : Imm) :
    (setHigh lit d).toNat = d.toNat * 65536 + lit.toNat % 65536 := by
  have h := BitVec.toNat_append d (lit.extractLsb' 0 16)
  refine h.trans ?_
  rw [← Nat.shiftLeft_add_eq_or_of_lt (BitVec.isLt _), Nat.shiftLeft_eq, BitVec.extractLsb'_toNat]
  simp

/-- Reset from any state keeps the parameters and program memory and takes every other element from R39. -/
theorem resetPort_eq (draw : ResetDraw) :
    resetPort draw s = (State.resetWith s.cfg draw).setProg s.prog := rfl

/-- The one answer of a meaning: the state after the increment and the fold, then the handler's write. -/
theorem runHandler_eq_next (d : Imm) (h : State → State) (t : State) :
    runHandler d s h = .next t ↔ t = h (afterFetch d s) := by
  simp [runHandler, eq_comm]

/-- A word is fetched exactly when PC is inside program memory, and it is the word at PC. -/
theorem fetch_eq_some (w : ProgWord) :
    fetch s = some w ↔ s.pc.toNat < s.cfg.progLen ∧ readWord s.prog s.pc.toNat = w := by
  simp [fetch]

theorem fetch_eq_none : fetch s = none ↔ s.cfg.progLen ≤ s.pc.toNat := by
  simp [fetch]

@[simp] theorem haltReason_eq_none (st : Status) : haltReason st = none ↔ st = .running := by
  cases st <;> simp [haltReason]

/-- A commit to the cache is read back at the latched index, and every other word stays (R44). -/
theorem commitCache_read (k : Nat) (h : s.cache.Pairwise fun x y => x.1 < y.1) :
    readWord (commitCache s).cache k = if k = cacheIndex s then s.cacheData else readWord s.cache k :=
  readWord_writeWord s.cache (cacheIndex s) k s.cacheData h

/-- A commit to DRAM is read back at the latched index, and every other word stays (R44). -/
theorem commitDram_read (k : Nat) (h : s.dram.Pairwise fun x y => x.1 < y.1) :
    readWord (commitDram s).dram k = if k = dramIndex s then s.dramData else readWord s.dram k :=
  readWord_writeWord s.dram (dramIndex s) k s.dramData h

/-- The image of any bytes has a word for each full group of three. -/
theorem length_wordsOfImage (bytes : List Byte) : (wordsOfImage bytes).length = bytes.length / 3 := by
  induction bytes using wordsOfImage.induct with
  | case1 b0 b1 b2 rest ih => simp only [wordsOfImage, List.length_cons, ih]; omega
  | case2 bytes h =>
    match bytes, h with
    | [], _ => rfl
    | [_], _ => simp [wordsOfImage]
    | [_, _], _ => simp [wordsOfImage]
    | b0 :: b1 :: b2 :: rest, h => exact absurd rfl (h b0 b1 b2 rest)

/-- What a load that succeeds leaves: program memory with the image's words, everything else as it was. -/
theorem loadImage_eq_ok (image : Option (List Byte)) (t : State) :
    loadImage image s = .ok t ↔
      ∃ bytes, image = some bytes ∧ (wordsOfImage bytes).length ≤ s.cfg.progLen ∧
        t = s.setProg (storeWords s.prog 0 (wordsOfImage bytes)) := by
  cases image with
  | none => simp [loadImage]
  | some bytes =>
    by_cases h : (wordsOfImage bytes).length ≤ s.cfg.progLen <;> simp [loadImage, h, eq_comm]

end Sys2Proof.Machine
end

