-- ==== Sys2Proof/Laws/Operands.lean ====
section
/-! SUPPORT. What the bus, the bus-reading handlers, the conditional jumps and the device operation can answer. -/

namespace Sys2Proof.Machine

variable (s : State)

/-- The shift-left source as arithmetic (R105). -/
theorem aluShl_toNat (a : Word) : (aluShl a).toNat = 2 * a.toNat % 2 ^ 32 := by
  simp [aluShl, Nat.shiftLeft_eq, Nat.mul_comm]

/-- The shift-right source as arithmetic (R106). -/
theorem aluShr_toNat (a : Word) : (aluShr a).toNat = a.toNat / 2 := by
  simp [aluShr, Nat.shiftRight_eq_div_pow]

/-- The sum source as arithmetic (R108). -/
theorem aluSum_toNat (a b : Word) (carry : Bool) :
    (aluSum a b carry).toNat = (a.toNat + b.toNat + carry.toNat) % 2 ^ 32 := by
  cases carry <;> simp [aluSum, BitVec.toNat_add]

/-- A source's value depends on the fields it names and on no other (R37). -/
theorem sourceValue_congr (src : BusSource) (s t : State) (hcfg : t.cfg = s.cfg) (hlit : t.lit = s.lit)
    (ha : t.a = s.a) (hb : t.b = s.b) (hc : t.carry = s.carry) (hca : t.cacheAddr = s.cacheAddr)
    (hcm : t.cache = s.cache) (hda : t.dramAddr = s.dramAddr) (hdm : t.dram = s.dram) :
    sourceValue src t = sourceValue src s := by
  cases src <;> simp [sourceValue, readDram, readCache, dramIndex, cacheIndex, hcfg, hlit, ha, hb, hc, hca, hcm, hda, hdm]

/-- A literal-valued source carries the literal register (R101). -/
theorem bus_of_isLiteral (h : (busSource s).isLiteral = true) : bus s = s.lit := by
  unfold bus
  cases hs : busSource s <;> simp [hs, BusSource.isLiteral, sourceValue] at h ⊢

@[simp] theorem busSource_afterFetch (d : Imm) : busSource (afterFetch d s) = busSource s := rfl

/-- The one answer of a handler that reads the bus. -/
theorem runBusHandler_eq_next (d : Imm) (h : Word → State → State) (t : State) :
    runBusHandler d s h = .next t ↔ t = h (bus (afterFetch d s)) (afterFetch d s) := by
  simp [runBusHandler, runHandler, eq_comm]

/-- The one answer of a device instruction. -/
theorem runDevice_eq_next (kind : DeviceKind) (d : Imm) (t : State) :
    runDevice kind d s = .next t ↔ t = emit kind (bus (afterFetch d s)) (afterFetch d s) := by
  simp [runDevice, runBusHandler_eq_next]

/-- The one answer of a conditional jump. -/
theorem runJumpIf_eq_next (p : CmpPred) (d : Imm) (t : State) :
    runJumpIf p d s = .next t ↔ t = (afterFetch d s).setPc (if cmpHolds p s then d else s.pc + 1) := by
  unfold runJumpIf
  rw [runHandler_eq_next]
  rfl

end Sys2Proof.Machine
end

