-- ==== Sys2Proof/Laws/PerInstr.lean ====
section
/-! SUPPORT. Statements about every instruction as syntax, one lemma per constructor. -/

namespace Sys2Proof.Laws

/-- The word of an instruction at the reference map, as a number: its place in the table of R64 in bits 23:16 and its
immediate in bits 15:0 (R61). -/
def ReferenceFields.Statement (i : Instr) : Prop :=
  (typeOf (encode .reference i)).toNat = i.cls.index.val ∧ dataOf (encode .reference i) = i.data

/-- The fields of an instruction's word under the reference map. -/
theorem referenceFields (i : Instr) (h : (refOpcode i.cls).toNat = i.cls.index.val) :
    ReferenceFields.Statement i := by
  refine ⟨?_, dataOf_wordOf _ _⟩
  rw [encode, typeOf_wordOf]
  exact h

theorem ReferenceFields.litl (d : Imm) : ReferenceFields.Statement (.litl d) := referenceFields _ rfl
theorem ReferenceFields.lith (d : Imm) : ReferenceFields.Statement (.lith d) := referenceFields _ rfl
theorem ReferenceFields.bus (d : Imm) : ReferenceFields.Statement (.bus d) := referenceFields _ rfl
theorem ReferenceFields.seta (d : Imm) : ReferenceFields.Statement (.seta d) := referenceFields _ rfl
theorem ReferenceFields.setb (d : Imm) : ReferenceFields.Statement (.setb d) := referenceFields _ rfl
theorem ReferenceFields.setc (d : Imm) : ReferenceFields.Statement (.setc d) := referenceFields _ rfl
theorem ReferenceFields.setf (d : Imm) : ReferenceFields.Statement (.setf d) := referenceFields _ rfl
theorem ReferenceFields.jmp (d : Imm) : ReferenceFields.Statement (.jmp d) := referenceFields _ rfl
theorem ReferenceFields.jlt (d : Imm) : ReferenceFields.Statement (.jlt d) := referenceFields _ rfl
theorem ReferenceFields.jle (d : Imm) : ReferenceFields.Statement (.jle d) := referenceFields _ rfl
theorem ReferenceFields.jgt (d : Imm) : ReferenceFields.Statement (.jgt d) := referenceFields _ rfl
theorem ReferenceFields.jge (d : Imm) : ReferenceFields.Statement (.jge d) := referenceFields _ rfl
theorem ReferenceFields.jeq (d : Imm) : ReferenceFields.Statement (.jeq d) := referenceFields _ rfl
theorem ReferenceFields.jne (d : Imm) : ReferenceFields.Statement (.jne d) := referenceFields _ rfl
theorem ReferenceFields.call (d : Imm) : ReferenceFields.Statement (.call d) := referenceFields _ rfl
theorem ReferenceFields.ret (d : Imm) : ReferenceFields.Statement (.ret d) := referenceFields _ rfl
theorem ReferenceFields.caddr (d : Imm) : ReferenceFields.Statement (.caddr d) := referenceFields _ rfl
theorem ReferenceFields.cdata (d : Imm) : ReferenceFields.Statement (.cdata d) := referenceFields _ rfl
theorem ReferenceFields.cwr (d : Imm) : ReferenceFields.Statement (.cwr d) := referenceFields _ rfl
theorem ReferenceFields.daddr (d : Imm) : ReferenceFields.Statement (.daddr d) := referenceFields _ rfl
theorem ReferenceFields.dinc (d : Imm) : ReferenceFields.Statement (.dinc d) := referenceFields _ rfl
theorem ReferenceFields.ddata (d : Imm) : ReferenceFields.Statement (.ddata d) := referenceFields _ rfl
theorem ReferenceFields.dwr (d : Imm) : ReferenceFields.Statement (.dwr d) := referenceFields _ rfl
theorem ReferenceFields.tcolor (d : Imm) : ReferenceFields.Statement (.tcolor d) := referenceFields _ rfl
theorem ReferenceFields.tchar (d : Imm) : ReferenceFields.Statement (.tchar d) := referenceFields _ rfl
theorem ReferenceFields.tcursor (d : Imm) : ReferenceFields.Statement (.tcursor d) := referenceFields _ rfl
theorem ReferenceFields.ucfg (d : Imm) : ReferenceFields.Statement (.ucfg d) := referenceFields _ rfl
theorem ReferenceFields.utx (d : Imm) : ReferenceFields.Statement (.utx d) := referenceFields _ rfl
theorem ReferenceFields.rtc (d : Imm) : ReferenceFields.Statement (.rtc d) := referenceFields _ rfl
theorem ReferenceFields.kbd (d : Imm) : ReferenceFields.Statement (.kbd d) := referenceFields _ rfl
theorem ReferenceFields.timer (d : Imm) : ReferenceFields.Statement (.timer d) := referenceFields _ rfl
theorem ReferenceFields.spkr (d : Imm) : ReferenceFields.Statement (.spkr d) := referenceFields _ rfl
theorem ReferenceFields.vpix (d : Imm) : ReferenceFields.Statement (.vpix d) := referenceFields _ rfl
theorem ReferenceFields.vblink (d : Imm) : ReferenceFields.Statement (.vblink d) := referenceFields _ rfl
theorem ReferenceFields.serdrv (d : Imm) : ReferenceFields.Statement (.serdrv d) := referenceFields _ rfl

end Sys2Proof.Laws
end

