-- ==== Sys2Proof/Laws/Step.lean ====
section
/-! SUPPORT. Everything a step can do, said once. -/

namespace Sys2Proof.Machine

/-- If a step answers a next state, the core was running and one of four things happened, in the order of R208: the stop
was taken; the fetch was out of range; the word at PC has no handler; the word at PC was executed. -/
theorem step_cases (s t : State) (h : step s = .next t) :
    s.status = .running ∧
      ((s.stopRequested = true ∧ t = takeStop s) ∨
       (s.stopRequested = false ∧ s.cfg.progLen ≤ s.pc.toNat ∧ t = raiseFetchOutOfRange s) ∨
       (s.Fetching ∧ (∀ c, s.cfg.opcodeMap.code c ≠ typeOf s.nextWord) ∧ t = raiseUnknownOpcode s.nextWord s) ∨
       ∃ i, s.Executes i ∧ exec i s = .next t) := by
  unfold step at h
  cases hr : haltReason s.status with
  | some r => simp [hr] at h
  | none =>
    have hrun := (haltReason_eq_none s.status).mp hr
    refine ⟨hrun, ?_⟩
    cases hs : s.stopRequested with
    | true => simp [hr, hs] at h; exact .inl ⟨rfl, h.symm⟩
    | false =>
      simp only [hr, hs] at h
      refine .inr ?_
      cases hf : fetch s with
      | none => simp [hf] at h; exact .inl ⟨rfl, (fetch_eq_none s).mp hf, h.symm⟩
      | some w =>
        obtain ⟨hpc, rfl⟩ := (fetch_eq_some s w).mp hf
        simp only [hf] at h
        refine .inr ?_
        cases hd : decodeWord s.cfg.opcodeMap (readWord s.prog s.pc.toNat) with
        | error e =>
          simp [hd] at h
          exact .inl ⟨⟨hrun, hs, hpc⟩, ((decodeWord_eq_error _ _ e).mp hd).1, h.symm⟩
        | ok i => simp [hd] at h; exact .inr ⟨i, ⟨⟨hrun, hs, hpc⟩, hd⟩, h⟩

end Sys2Proof.Machine
end

