-- ==== Sys2Proof/Tests/Slice0.lean ====
section
/-! SUPPORT. The implementer's own tests: one step each on a small state, with expected results from the vectors of
95_test_vectors.md (V, S and the programs), and the witnesses that the statements' hypotheses can be met. -/

namespace Sys2Proof.Tests

open Sys2Proof.Machine

/-! ### WellFormed: each check refuses an ill-formed term -/

theorem test_wf_reference : Config.reference.wf = true := by decide
theorem test_wf_refuses_no_program_memory : ({ Config.reference with progLen := 0 } : Config).wf = false := by decide
theorem test_wf_refuses_program_memory_beyond_pc : ({ Config.reference with progLen := 65537 } : Config).wf = false := by
  decide
theorem test_wf_refuses_empty_cache : ({ Config.reference with cacheLen := 0 } : Config).wf = false := by decide
theorem test_wf_refuses_empty_dram : ({ Config.reference with dramLen := 0 } : Config).wf = false := by decide

/-- The opcode map that counts down from 0xFF: injective, and not the reference. -/
def downMap : OpcodeMap := .custom (Vector.ofFn fun i => 0xFF - BitVec.ofNat 8 i.val)

/-- The selector map that names the sources in the reverse order. -/
def reverseSelectors : SelectorMap := .custom (Vector.ofFn fun i => BusSource.all.reverse.getD i.val .lit)

theorem test_wf_down_map : downMap.wf = true := by decide
theorem test_wf_refuses_shared_opcode : (OpcodeMap.custom (Vector.replicate 35 7)).wf = false := by decide
theorem test_wf_reverse_selectors : reverseSelectors.wf = true := by decide
theorem test_wf_refuses_source_at_two_codes : (SelectorMap.custom (Vector.replicate 16 .lit)).wf = false := by decide
theorem test_wf_every_immediate : (Instr.bus 0xFFFF).wf = true := by decide

/-! ### Decode: a word written out from R64 for every constructor, and the rejections -/

theorem test_decode_literal :
    decodeTableWord 24 0x004444 = some (.litl 0x4444) ∧
    decodeTableWord 24 0x013333 = some (.lith 0x3333) ∧
    decodeTableWord 24 0x020013 = some (.bus 0x0013) := by
  decide

theorem test_decode_loads :
    decodeTableWord 24 0x030003 = some (.seta 0x0003) ∧
    decodeTableWord 24 0x04FFFA = some (.setb 0xFFFA) ∧
    decodeTableWord 24 0x050008 = some (.setc 0x0008) ∧
    decodeTableWord 24 0x060000 = some (.setf 0x0000) := by
  decide

theorem test_decode_jumps :
    decodeTableWord 24 0x07000C = some (.jmp 0x000C) ∧
    decodeTableWord 24 0x080040 = some (.jlt 0x0040) ∧
    decodeTableWord 24 0x090040 = some (.jle 0x0040) ∧
    decodeTableWord 24 0x0A000B = some (.jgt 0x000B) ∧
    decodeTableWord 24 0x0B0040 = some (.jge 0x0040) ∧
    decodeTableWord 24 0x0C0040 = some (.jeq 0x0040) ∧
    decodeTableWord 24 0x0D0006 = some (.jne 0x0006) ∧
    decodeTableWord 24 0x0E0010 = some (.call 0x0010) ∧
    decodeTableWord 24 0x0F0000 = some (.ret 0x0000) := by
  decide

theorem test_decode_memory :
    decodeTableWord 24 0x100013 = some (.caddr 0x0013) ∧
    decodeTableWord 24 0x110007 = some (.cdata 0x0007) ∧
    decodeTableWord 24 0x120000 = some (.cwr 0x0000) ∧
    decodeTableWord 24 0x13000A = some (.daddr 0x000A) ∧
    decodeTableWord 24 0x140000 = some (.dinc 0x0000) ∧
    decodeTableWord 24 0x15002A = some (.ddata 0x002A) ∧
    decodeTableWord 24 0x160000 = some (.dwr 0x0000) := by
  decide

theorem test_decode_console_uart :
    decodeTableWord 24 0x17001F = some (.tcolor 0x001F) ∧
    decodeTableWord 24 0x180041 = some (.tchar 0x0041) ∧
    decodeTableWord 24 0x190102 = some (.tcursor 0x0102) ∧
    decodeTableWord 24 0x1A0008 = some (.ucfg 0x0008) ∧
    decodeTableWord 24 0x1B0055 = some (.utx 0x0055) := by
  decide

theorem test_decode_hooks :
    decodeTableWord 24 0x1C0005 = some (.rtc 0x0005) ∧
    decodeTableWord 24 0x1D0000 = some (.kbd 0x0000) ∧
    decodeTableWord 24 0x1E0064 = some (.timer 0x0064) ∧
    decodeTableWord 24 0x1F01B8 = some (.spkr 0x01B8) ∧
    decodeTableWord 24 0x200001 = some (.vpix 0x0001) ∧
    decodeTableWord 24 0x210001 = some (.vblink 0x0001) ∧
    decodeTableWord 24 0x220000 = some (.serdrv 0x0000) := by
  decide

/-- V70, V71: the first and the last type without a handler. -/
theorem test_decode_rejects_by_type :
    decodeWord .reference 0x231234 = .error (.unknownOpcode 0x23) ∧
    decodeWord .reference 0xFF0000 = .error (.unknownOpcode 0xFF) := by
  decide

theorem test_decode_rejects_partial_word : decodeBytes .reference [0x0C, 0x00] = .error .partialWord := by decide

/-- S10: the bytes 0C 00 07 are `JMP 12`. -/
theorem test_decode_bytes_little_endian :
    decodeBytes .reference [0x0C, 0x00, 0x07, 0xFF] = .ok (.jmp 12, [0xFF]) := by decide

theorem test_encode_bytes_little_endian : encodeBytes .reference (.jmp 12) = [0x0C, 0x00, 0x07] := by decide

/-- At another map the same class has another type: CALL is the 15th class. -/
theorem test_decode_down_map :
    decodeWord downMap 0xF10010 = .ok (.call 0x0010) ∧ encode downMap (.call 0x0010) = 0xF10010 := by decide

theorem test_selector_codes :
    SelectorMap.reference.code .lit = 0 ∧ SelectorMap.reference.code .sum = 10 ∧
    SelectorMap.reference.source 15 = .dev4 ∧ reverseSelectors.code .lit = 15 := by decide

/-! ### One step of each instruction -/

/-- A state from reset with a few fields given. -/
def base (sel : SelCode) (lit a b : Word) (carry : Bool) : State :=
  { State.reset with sel := sel, lit := lit, a := a, b := b, carry := carry }

/-- A state from reset with the memories' latches given, DRAM word 10 equal to 7 and cache word 3 equal to 0x55. -/
def memBase (sel : SelCode) (ca cd da dd : Word) : State :=
  { State.reset with
    sel := sel, cacheAddr := ca, cacheData := cd, dramAddr := da, dramData := dd
    dram := [(10, 7)], cache := [(3, 0x55)] }

/-- What one step gives on a word placed at PC, seen through a function. -/
def after {α : Type} (s : State) (w : Nat) (f : State → α) : Option α :=
  match step (s.withFetchWord 24 w) with
  | .next t => some (f t)
  | .fault _ => none
  | .refused _ => none

/-- V1. -/
theorem test_litl : after { base 0 0xABCD1234 0 0 false with pc := 4 } 0x005678 (fun t => (t.pc, t.lit)) =
    some (5, 0xABCD5678) := by decide
/-- V8: the increment wraps. -/
theorem test_litl_pc_wraps : after { State.reset with pc := 0xFFFF } 0x000000 (fun t => t.pc) = some 0 := by decide
/-- V2. -/
theorem test_lith : after (base 0 0x11112222 0 0 false) 0x013333 (fun t => t.lit) = some 0x33333333 := by decide
/-- V5. -/
theorem test_bus : after (base 0 0 0 0 false) 0x020013 (fun t => (t.sel, t.lit)) = some (3, 0x13) := by decide
/-- V6. -/
theorem test_bus_masks : after (base 10 0 0 0 false) 0x02FFF0 (fun t => (t.sel, t.lit)) = some (0, 0xFFF0) := by decide
/-- V9: the bus is computed from the old A. -/
theorem test_seta_shl : after (base 5 0 0x40000000 0 false) 0x030000 (fun t => t.a) = some 0x80000000 := by decide
/-- V24: STATE is the literal. -/
theorem test_seta_state : after (base 1 0x12340000 0 0 false) 0x035678 (fun t => t.a) = some 0x12345678 := by decide
/-- V11: the right shift is logical. -/
theorem test_setb_shr : after (base 6 0 0x80000001 0 false) 0x040000 (fun t => (t.b, t.a)) =
    some (0x40000000, 0x80000001) := by decide
/-- V10. -/
theorem test_setb_shl : after (base 5 0 0x80000001 0 false) 0x040000 (fun t => t.b) = some 2 := by decide
/-- V22. -/
theorem test_setc_bit3_clear : after (base 0 0xFFFF0000 0 0 true) 0x05FFF7 (fun t => t.carry) = some false := by decide
/-- V23. -/
theorem test_setc_from_sum : after (base 10 0 4 4 false) 0x050000 (fun t => t.carry) = some true := by decide
/-- V16. -/
theorem test_setf_sum : after (base 10 0 0xFFFFFFFF 0xFFFFFFFF true) 0x060000 (fun t => (t.flags, t.carry)) =
    some (0xFFFFFFFF, true) := by decide
/-- V13, V14, V15. -/
theorem test_setf_logic :
    after (base 7 0 0xF0F0F0F0 0xFF00FF00 false) 0x060000 (fun t => t.flags) = some 0xF000F000 ∧
    after (base 8 0 0xF0F0F0F0 0xFF00FF00 false) 0x060000 (fun t => t.flags) = some 0xFFF0FFF0 ∧
    after (base 9 0 0xF0F0F0F0 0xFF00FF00 false) 0x060000 (fun t => t.flags) = some 0x0FF00FF0 := by decide
/-- V27: the array word, not the latch. -/
theorem test_source_dram_data : after (memBase 2 0 0 1010 9) 0x030000 (fun t => t.a) = some 7 := by decide
/-- V28: the array word, not the latch. -/
theorem test_source_cache_data : after (memBase 4 0x13 0x66 0 0) 0x030000 (fun t => t.a) = some 0x55 := by decide
/-- V26. -/
theorem test_source_dram_addr : after (memBase 3 0 0 0xDEADBEEF 0) 0x030000 (fun t => t.a) = some 0xDEADBEEF := by decide

/-- The next PC of a conditional jump to 0x40 at index 7. -/
def jumpFrom7 (flags : Word) (w : Nat) : Option ProgIndex :=
  after { State.reset with pc := 7, flags := flags } w (fun t => t.pc)

/-- V30 to V34. -/
theorem test_jlt : [0, 0x80000000, 1, 0x7FFFFFFF, 0xFFFFFFFF].map (jumpFrom7 · 0x080040) = [some 8, some 64, some 8, some 8, some 64] := by decide
/-- V30 to V34. -/
theorem test_jle : [0, 0x80000000, 1, 0x7FFFFFFF, 0xFFFFFFFF].map (jumpFrom7 · 0x090040) = [some 64, some 64, some 8, some 8, some 64] := by decide
/-- V30 to V34. -/
theorem test_jgt : [0, 0x80000000, 1, 0x7FFFFFFF, 0xFFFFFFFF].map (jumpFrom7 · 0x0A0040) = [some 8, some 8, some 64, some 64, some 8] := by decide
/-- V30 to V34. -/
theorem test_jge : [0, 0x80000000, 1, 0x7FFFFFFF, 0xFFFFFFFF].map (jumpFrom7 · 0x0B0040) = [some 64, some 8, some 64, some 64, some 8] := by decide
/-- V30 to V34. -/
theorem test_jeq : [0, 0x80000000, 1, 0x7FFFFFFF, 0xFFFFFFFF].map (jumpFrom7 · 0x0C0040) = [some 64, some 8, some 8, some 8, some 8] := by decide
/-- V30 to V34. -/
theorem test_jne : [0, 0x80000000, 1, 0x7FFFFFFF, 0xFFFFFFFF].map (jumpFrom7 · 0x0D0040) = [some 8, some 64, some 64, some 64, some 64] := by decide
/-- V38, and the fold beside it. -/
theorem test_jmp : after { State.reset with pc := 2 } 0x070000 (fun t => (t.pc, t.retAddr)) = some (0, 0) := by decide
/-- V40: the bus value is cut to 16 bits. -/
theorem test_call : after { base 0 0xFFFF0000 0 0 false with pc := 2 } 0x0E0010 (fun t => (t.retAddr, t.pc)) =
    some (3, 0x0010) := by decide
/-- V41. -/
theorem test_call_at_last_index : after { State.reset with pc := 0xFFFF } 0x0E0100 (fun t => (t.retAddr, t.pc)) =
    some (0, 0x0100) := by decide
/-- V43: the slot keeps its value. -/
theorem test_ret : after { State.reset with pc := 6, retAddr := 3 } 0x0F0000 (fun t => (t.pc, t.retAddr)) =
    some (3, 3) := by decide
/-- V45. -/
theorem test_caddr : after (base 0 0 0 0 false) 0x100013 (fun t => (t.cacheAddr, cacheIndex t)) = some (0x13, 3) := by
  decide
/-- V46. -/
theorem test_cdata : after (base 10 0 1 2 false) 0x110000 (fun t => (t.cacheData, t.cache)) = some (3, []) := by decide
/-- V47. -/
theorem test_cwr : after (memBase 0 0x13 7 0 0) 0x120000 (fun t => (t.cache, t.dram)) = some ([(3, 7)], [(10, 7)]) := by
  decide
/-- V48: 0xFFFFFFFF mod 16 is 15. -/
theorem test_cwr_aliases : after (memBase 0 0xFFFFFFFF 1 0 0) 0x120000 (fun t => t.cache) =
    some [(3, 0x55), (15, 1)] := by decide
/-- V49. -/
theorem test_daddr : after (base 0 0 0 0 false) 0x13000A (fun t => t.dramAddr) = some 10 := by decide
/-- V51. -/
theorem test_dinc_wraps : after (memBase 0 0 0 0xFFFFFFFF 0) 0x140000 (fun t => (t.dramAddr, dramIndex t)) =
    some (0, 0) := by decide
/-- V52. -/
theorem test_dinc_past_the_end : after (memBase 0 0 0 999 0) 0x140000 (fun t => (t.dramAddr, dramIndex t)) =
    some (1000, 0) := by decide
/-- V53. -/
theorem test_ddata : after (base 0 0 0 0 false) 0x15002A (fun t => (t.dramData, t.dram)) = some (42, []) := by decide
/-- V55. -/
theorem test_dwr_aliases : after (memBase 0 0 0 1010 5) 0x160000 (fun t => (t.dram, t.cache)) =
    some ([(10, 5)], [(3, 0x55)]) := by decide
/-- Writing the value an unlisted word reads as removes the entry. -/
theorem test_dwr_keeps_canonical_form : after (memBase 0 0 0 10 0) 0x160000 (fun t => t.dram) = some [] := by decide

/-- The port after a device instruction with the literal selected and its high half 0. -/
def portAfter (w : Nat) : Option (List DevEvent) := after (base 0 0 0 0 false) w (fun t => t.port)

/-- V57. -/
theorem test_tcolor : portAfter 0x17001F = some [⟨.textColor, 0x1F⟩] := by decide
/-- V58. -/
theorem test_tchar : portAfter 0x180041 = some [⟨.textChar, 0x41⟩] := by decide
/-- V59. -/
theorem test_tcursor : portAfter 0x190102 = some [⟨.textCursor, 0x102⟩] := by decide
/-- V60. -/
theorem test_ucfg : portAfter 0x1A0008 = some [⟨.uartConfig, 8⟩] := by decide
/-- V61. -/
theorem test_utx : portAfter 0x1B0055 = some [⟨.uartTx, 0x55⟩] := by decide
/-- V62. -/
theorem test_rtc : portAfter 0x1C0005 = some [⟨.rtc, 5⟩] := by decide
/-- V63. -/
theorem test_kbd : portAfter 0x1D0000 = some [⟨.keyboard, 0⟩] := by decide
/-- V64. -/
theorem test_timer : portAfter 0x1E0064 = some [⟨.timer, 100⟩] := by decide
/-- V65. -/
theorem test_spkr : portAfter 0x1F01B8 = some [⟨.speaker, 440⟩] := by decide
/-- V66. -/
theorem test_vpix : portAfter 0x200001 = some [⟨.vgaPixelMode, 1⟩] := by decide
/-- V67. -/
theorem test_vblink : portAfter 0x210001 = some [⟨.vgaBlinkMode, 1⟩] := by decide
/-- V68. -/
theorem test_serdrv : portAfter 0x220000 = some [⟨.serialDrive, 0⟩] := by decide
/-- V69, after an earlier event: the order of the port, and the value is the bus. -/
theorem test_utx_from_sum :
    after { base 10 0 0x40 0x01 false with port := [⟨.textChar, 0x48⟩] } 0x1B0000 (fun t => (t.port, t.a)) =
      some ([⟨.textChar, 0x48⟩, ⟨.uartTx, 0x41⟩], 0x40) := by decide

/-! ### Faults, stop, load, notation -/

/-- The reference parameters with a short program memory. -/
def shortCfg (n : Nat) : Config := { Config.reference with progLen := n }

/-- V70. -/
theorem test_unknown_opcode :
    after { base 0 0xABCD0000 0 0 false with pc := 3 } 0x231234 (fun t => (t.status, t.pc, t.lit)) =
      some (.faulted (.unknownOpcode 0x23), 4, 0xABCD1234) := by decide
/-- V72. -/
theorem test_fetch_out_of_range :
    step { State.reset with cfg := shortCfg 3, pc := 3, lit := 5 } =
      .next { State.reset with cfg := shortCfg 3, pc := 3, lit := 5, status := .faulted (.fetchOutOfRange 3) } := rfl
/-- V73. -/
theorem test_faulted_takes_no_step :
    step { State.reset with status := .faulted (.unknownOpcode 0x23) } = .fault (.coreFaulted (.unknownOpcode 0x23)) := rfl
/-- V74, V75: the stop comes before the fetch range. -/
theorem test_stop_before_fetch_range :
    step { State.reset with cfg := shortCfg 3, pc := 3, stopRequested := true } =
      .next { State.reset with cfg := shortCfg 3, pc := 3, stopRequested := true, status := .stopped } := rfl
theorem test_reset_leaves_a_fault :
    resetPort ResetDraw.zero { State.reset with prog := [(0, 0x070000)], pc := 9, status := .stopped } =
      { State.reset with prog := [(0, 0x070000)] } := rfl
/-- V77: two words loaded, the trailing byte dropped. -/
theorem test_load_drops_partial_word :
    launch (shortCfg 2) ResetDraw.zero (some [0x0C, 0x00, 0x07, 0x01, 0x00, 0xFF, 0x02]) =
      .ok { State.reset with cfg := shortCfg 2, prog := [(0, 0x07000C), (1, 0xFF0001)] } := by decide
/-- V76. -/
theorem test_load_rejects_oversize :
    launch (shortCfg 2) ResetDraw.zero (some [0, 0, 1, 0, 0, 1, 0, 0, 1]) = .error .tooLong := by decide
/-- Program C of 95_test_vectors.md from its assembler lines, with a label. -/
theorem test_assemble :
    assemble Config.reference
      [⟨none, .op .lith (.number 0)⟩, ⟨none, .op .bus (.source .lit)⟩, ⟨none, .op .call (.label "f")⟩,
       ⟨none, .halt⟩, ⟨none, .nop⟩, ⟨some "f", .op .seta (.number 7)⟩, ⟨none, .op .ret .omitted⟩] =
      .ok [0x010000, 0x020000, 0x0E0005, 0x070003, 0x000000, 0x030007, 0x0F0000] := by decide
/-- R69: WIDE is LITH of the high half, then the class with the low half. -/
theorem test_assemble_wide :
    assemble Config.reference [⟨none, .wide .seta 0x12345678⟩, ⟨none, .op .jmp .here⟩] =
      .ok [0x011234, 0x035678, 0x070002] := by decide
/-- R68: a number beyond 0xFFFF, and a source name outside BUS, have no word. -/
theorem test_assemble_rejects :
    assemble Config.reference [⟨none, .op .seta (.number 65536)⟩] = .error (.numberTooLarge 65536) ∧
    assemble Config.reference [⟨none, .op .seta (.source .sum)⟩] = .error (.sourceNameOutsideBus .seta) := by decide

/-! ### Witnesses: the hypotheses of each statement that has some are met together -/

/-- A machine about to execute one word. -/
def about (w : ProgWord) : State := { State.reset with prog := [(0, w)] }

theorem witness_DecodeOfEncodeIsIdentity : downMap.wf = true ∧ (Instr.serdrv 0xFFFF).wf = true := by decide
theorem witness_EncodeOfDecodeIsIdentity :
    decodeWord downMap 0xF10010 = .ok (.call 0x0010) ∧
    decodeBytes .reference [0x0C, 0x00, 0x07, 0xFF] = .ok (.jmp 12, [0xFF]) := by decide
theorem witness_StepRunsDecodedInstruction : (about 0x030007).Executes (.seta 7) :=
  ⟨⟨rfl, rfl, by decide⟩, by decide⟩
theorem witness_PlacedInstructionRunsNext :
    Memory.wf 4 (about 0x030007).prog = true ∧ decodeTableWord 24 0x220000 = some (.serdrv 0) := by decide
theorem witness_UnknownOpcodeFaultsAfterFold :
    (about 0x230000).Fetching ∧ ∀ c, (about 0x230000).cfg.opcodeMap.code c ≠ typeOf (about 0x230000).nextWord :=
  ⟨⟨rfl, rfl, by decide⟩, fun c => by cases c <;> decide⟩
/-- Both clauses: PC equal to PROG_LEN, and PROG_LEN 65536. -/
theorem witness_FetchBeyondProgramFaults :
    ((State.reset.setPc 3).status = .running ∧ (State.reset.setPc 3).stopRequested = false ∧
      (shortCfg 3).progLen ≤ (State.reset.setPc 3).pc.toNat) ∧
    State.reset.cfg.progLen = 65536 ∧ State.reset.status = .running ∧ State.reset.stopRequested = false := by decide
theorem witness_StopIsTakenBeforeTheFetch :
    (State.reset.setStop true).status = .running ∧ (State.reset.setStop true).stopRequested = true := by decide
theorem witness_StepExistsExactlyWhileRunning :
    (raise (.unknownOpcode 0x23) State.reset).status = .faulted (.unknownOpcode 0x23) ∧
    (takeStop State.reset).status = .stopped := by decide
theorem witness_SelectorFaultNeverRecorded : step (about 0x070000) = .next { about 0x070000 with lit := 0 } := rfl
theorem witness_LithAloneWritesTheHighHalf : ∀ i ∈ [Instr.litl 5, .seta 1], i.cls ≠ .lith := by decide
theorem witness_LoadsTakeTheBusValue : (Instr.seta 5).cls ≠ .setf := by decide
theorem witness_LithThenConsumerComposes :
    (busSource State.reset).isLiteral = true ∧ (Instr.setb 5).data = 5 := by decide
theorem witness_ShiftLeftSourceBits : busSource (base 5 0 0 0 false) = .shl := by decide
theorem witness_ShiftRightSourceBits : busSource (base 6 0 0 0 false) = .shr := by decide
theorem witness_LogicSourceBits :
    busSource (base 7 0 0 0 false) = .and ∧ busSource (base 8 0 0 0 false) = .or ∧
    busSource (base 9 0 0 0 false) = .xor := by decide
theorem witness_SumSourceWrapsAndSubtracts :
    busSource (base 10 0 5 0xFFFFFFFC true) = .sum ∧
    (base 10 0 5 0xFFFFFFFC true).b = (3 : Word) ^^^ 0xFFFFFFFF ∧ (base 10 0 5 0xFFFFFFFC true).carry = true := by decide
theorem witness_MemorySourcesReadTheArray :
    busSource (memBase 2 0 0 0 0) = .dramData ∧ busSource (memBase 4 0 0 0 0) = .cacheData ∧
    busSource (memBase 3 0 0 0 0) = .dramAddr := by decide
theorem witness_LiteralSourcesCarryOwnImmediate : (busSource (base 15 0 0 0 false)).isLiteral = true := by decide
/-- Both ends of the range in which the signed difference does not overflow. -/
theorem witness_ReferenceComparatorOrdersDifferences :
    (-2 ^ 31 ≤ (0x80000000 : Word).toInt - (0 : Word).toInt ∧ (0x80000000 : Word).toInt - (0 : Word).toInt < 2 ^ 31) ∧
    (-2 ^ 31 ≤ (0x7FFFFFFF : Word).toInt - (0 : Word).toInt ∧ (0x7FFFFFFF : Word).toInt - (0 : Word).toInt < 2 ^ 31) := by
  decide
theorem witness_RetGoesToTheReturnSlot : ∀ i ∈ [Instr.jmp 3, .ret 0], i.cls ≠ .call := by decide
theorem witness_ReturnRestoresUnlessCallsNest :
    (∀ i ∈ [Instr.seta 7], i.cls ≠ .call) ∧ ∀ i ∈ ([] : List Instr), i.cls ≠ .call := by decide
theorem witness_SelfJumpRunsForever : (about 0x070000).Executes (.jmp (about 0x070000).pc) :=
  ⟨⟨rfl, rfl, by decide⟩, by decide⟩
theorem witness_CommitWritesExactlyOneWord :
    Memory.wf (memBase 0 0 0 0 0).cfg.cacheLen (memBase 0 0 0 0 0).cache = true ∧
    Memory.wf (memBase 0 0 0 0 0).cfg.dramLen (memBase 0 0 0 0 0).dram = true := by decide
/-- Both banks, with an address one length above the latched one. -/
theorem witness_CommittedWordAliasesModuloLength :
    (busSource (memBase 4 5 7 0 0) = .cacheData ∧
      (21 : Word).toNat = (memBase 4 5 7 0 0).cacheAddr.toNat + (memBase 4 5 7 0 0).cfg.cacheLen ∧
      Memory.wf (memBase 4 5 7 0 0).cfg.cacheLen (memBase 4 5 7 0 0).cache = true) ∧
    (busSource (memBase 2 0 0 10 7) = .dramData ∧
      (1010 : Word).toNat = (memBase 2 0 0 10 7).dramAddr.toNat + (memBase 2 0 0 10 7).cfg.dramLen ∧
      Memory.wf (memBase 2 0 0 10 7).cfg.dramLen (memBase 2 0 0 10 7).dram = true) := by decide
theorem witness_LatchOrderDoesNotMatter :
    (busSource (memBase 0 0 0 0 0)).isLiteral = true ∧
    Memory.wf (memBase 0 0 0 0 0).cfg.dramLen (memBase 0 0 0 0 0).dram = true ∧
    Memory.wf (memBase 0 0 0 0 0).cfg.cacheLen (memBase 0 0 0 0 0).cache = true := by decide
theorem witness_CanonicalMemoriesAreDeterminedByReads :
    Memory.wf 16 ([(3, 0x55), (15, 1)] : Cells 32) = true ∧
    ∀ k, readWord ([(3, 0x55), (15, 1)] : Cells 32) k = readWord ([(3, 0x55), (15, 1)] : Cells 32) k :=
  ⟨by decide, fun _ => rfl⟩
/-- A memory out of order, or with an entry that reads as an unlisted word, is not canonical. -/
theorem test_memory_wf_refuses :
    Memory.wf 16 ([(15, 1), (3, 0x55)] : Cells 32) = false ∧ Memory.wf 16 ([(3, 0)] : Cells 32) = false ∧
    Memory.wf 16 ([(16, 1)] : Cells 32) = false := by decide
theorem witness_PortRecordOnlyGrows :
    step (about 0x070000) = .next { about 0x070000 with lit := 0 } ∧ Reaches State.reset State.reset :=
  ⟨rfl, 0, rfl⟩
theorem witness_ResetSelectsTheLiteral :
    ({ Config.reference with selectorMap := reverseSelectors } : Config).wf = true := by decide
/-- An image that fills program memory exactly, and one word more. -/
theorem witness_ImageLoadsLittleEndianWords :
    (Memory.wf (shortCfg 2).progLen State.reset.prog = true ∧ [(1 : Byte), 2, 3, 4, 5, 6, 7].length / 3 ≤ (shortCfg 2).progLen) ∧
    (shortCfg 2).progLen < [(1 : Byte), 2, 3, 4, 5, 6, 7, 8, 9].length / 3 := by decide
theorem witness_LoadedInstructionsAreFetched :
    (shortCfg 2).wf = true ∧ ResetDraw.zero.wf (shortCfg 2) = true ∧
    [Instr.seta 3, .jmp 1].length ≤ (shortCfg 2).progLen := by decide
theorem witness_LaunchMeetsTheInvariant :
    (shortCfg 2).wf = true ∧ ResetDraw.zero.wf (shortCfg 2) = true ∧
    launch (shortCfg 2) ResetDraw.zero (some [0x0C, 0x00, 0x07]) =
      .ok { State.reset with cfg := shortCfg 2, prog := [(0, 0x07000C)] } := by decide
theorem witness_StepKeepsTheInvariant :
    (about 0x070000).Inv ∧ step (about 0x070000) = .next { about 0x070000 with lit := 0 } :=
  ⟨⟨by decide, by decide, by decide, by decide, trivial⟩, rfl⟩
theorem witness_RunNeverWritesProgramMemory : Reaches (about 0x070000) { about 0x070000 with lit := 0 } :=
  ⟨1, rfl⟩
/-- A step that changes A, and executes SETA. -/
theorem witness_OnlyListedInstructionsWrite :
    step (about 0x030007) = .next { about 0x030007 with pc := 1, lit := 7, a := 7 } ∧
    ({ about 0x030007 with pc := 1, lit := 7, a := 7 } : State).a ≠ (about 0x030007).a := ⟨rfl, by decide⟩
theorem witness_ReferenceSelectorMapNamesEachSource : State.reset.cfg.selectorMap = .reference := rfl
/-- PC by a fetch at the last index, by each transfer and by a taken conditional jump; the low half of LIT by a word without
a handler too; the port by the first and the last device instruction. PC and LIT are 0 before, but where a setter says. -/
theorem witness_OnlyListedInstructionsWrite_pc_lit_port :
    after (State.reset.setPc 0xFFFF) 0x000000 (fun t => t.pc) = some 0 ∧
    after State.reset 0x070009 (fun t => t.pc) = some 9 ∧
    after State.reset 0x0C0009 (fun t => t.pc) = some 9 ∧
    after State.reset 0x0E0009 (fun t => t.pc) = some 9 ∧
    after (State.reset.setRetAddr 9) 0x0F0000 (fun t => t.pc) = some 9 ∧
    after State.reset 0x00FFFF (fun t => t.lit) = some 0xFFFF ∧
    after State.reset 0x23FFFF (fun t => t.lit) = some 0xFFFF ∧
    after State.reset 0x170001 (fun t => t.port) = some [⟨.textColor, 1⟩] ∧
    after State.reset 0x220001 (fun t => t.port) = some [⟨.serialDrive, 1⟩] := by decide
/-- The run status by a fetch just beyond PROG_LEN and by the stop. -/
theorem witness_OnlyListedInstructionsWrite_status :
    step { State.reset with cfg := shortCfg 3, pc := 3 } =
      .next { State.reset with cfg := shortCfg 3, pc := 3, status := .faulted (.fetchOutOfRange 3) } ∧
    step (State.reset.setStop true) = .next { State.reset with stopRequested := true, status := .stopped } := ⟨rfl, rfl⟩
/-- For each clause, a step that changes what the clause is about: every register here is 0 before. -/
theorem witness_OnlyListedInstructionsWrite_clauses :
    after State.reset 0x0E0010 (fun t => t.retAddr) = some 1 ∧
    after State.reset 0x010001 (fun t => t.lit) = some 0x00010001 ∧
    after State.reset 0x020003 (fun t => t.sel) = some 3 ∧
    after State.reset 0x040007 (fun t => t.b) = some 7 ∧
    after State.reset 0x050008 (fun t => t.carry) = some true ∧
    after State.reset 0x060007 (fun t => t.flags) = some 7 ∧
    after State.reset 0x100001 (fun t => t.cacheAddr) = some 1 ∧
    after State.reset 0x110001 (fun t => t.cacheData) = some 1 ∧
    after (State.reset.setCacheData 1) 0x120000 (fun t => t.cache) = some [(0, 1)] ∧
    after State.reset 0x130001 (fun t => t.dramAddr) = some 1 ∧
    after State.reset 0x140000 (fun t => t.dramAddr) = some 1 ∧
    after State.reset 0x150001 (fun t => t.dramData) = some 1 ∧
    after (State.reset.setDramData 1) 0x160000 (fun t => t.dram) = some [(0, 1)] ∧
    after State.reset 0x230000 (fun t => t.status) = some (.faulted (.unknownOpcode 0x23)) := by decide
theorem witness_UnreadRegistersDoNotInfluence :
    (Instr.seta 7).cls ∉ [OpClass.cwr, .cdata] ∧ (Instr.seta 7).cls ∉ [OpClass.dwr, .ddata] ∧
    (Instr.seta 7).cls ∉ [OpClass.ret, .call] ∧
    (Instr.seta 7).cls ∉ [OpClass.jlt, .jle, .jgt, .jge, .jeq, .jne, .setf] ∧
    (Instr.cdata 0).cls = .cdata ∧ (Instr.ddata 0).cls = .ddata ∧ (Instr.call 0).cls = .call ∧
    (Instr.setf 0).cls = .setf := by decide

end Sys2Proof.Tests
end

section
/-! SUPPORT. What an instruction writes, said once: the state after the fetch and the bus value go in, the handler's write
comes out (40_dispatch_literal.md R80, R83). One lemma per state element says which classes can change it. -/

namespace Sys2Proof.Machine

open Sys2Proof.Spec

/-- PC to the immediate when the predicate holds (R129). -/
def jumpWhen (p : CmpPred) (d : Imm) (t : State) : State := t.setPc (if cmpHolds p t then d else t.pc)

/-- The write of an instruction's handler to the state `t` after the fetch, `v` being the bus value it reads there. -/
def handlerWrite (v : Word) (t : State) : Instr → State
  | .litl _ => t
  | .lith d => t.setLit (setHigh t.lit d)
  | .bus d => t.setSel (d.extractLsb' 0 4)
  | .seta _ => t.setA v
  | .setb _ => t.setB v
  | .setc _ => t.setCarry (carryOfBus v)
  | .setf _ => t.setFlags v
  | .jmp d => t.setPc d
  | .jlt d => jumpWhen .lt d t
  | .jle d => jumpWhen .le d t
  | .jgt d => jumpWhen .gt d t
  | .jge d => jumpWhen .ge d t
  | .jeq d => jumpWhen .eq d t
  | .jne d => jumpWhen .ne d t
  | .call _ => (t.setRetAddr t.pc).setPc (v.extractLsb' 0 16)
  | .ret _ => t.setPc t.retAddr
  | .caddr _ => t.setCacheAddr v
  | .cdata _ => t.setCacheData v
  | .cwr _ => commitCache t
  | .daddr _ => t.setDramAddr v
  | .dinc _ => t.setDramAddr (t.dramAddr + 1)
  | .ddata _ => t.setDramData v
  | .dwr _ => commitDram t
  | .tcolor _ => emit .textColor v t
  | .tchar _ => emit .textChar v t
  | .tcursor _ => emit .textCursor v t
  | .ucfg _ => emit .uartConfig v t
  | .utx _ => emit .uartTx v t
  | .rtc _ => emit .rtc v t
  | .kbd _ => emit .keyboard v t
  | .timer _ => emit .timer v t
  | .spkr _ => emit .speaker v t
  | .vpix _ => emit .vgaPixelMode v t
  | .vblink _ => emit .vgaBlinkMode v t
  | .serdrv _ => emit .serialDrive v t

/-- The state an instruction leaves: the fetch, one bus read, the handler's write. -/
def execNext (i : Instr) (s : State) : State :=
  handlerWrite (bus (afterFetch i.data s)) (afterFetch i.data s) i

/-- Every instruction completes, in every state (R80, R208). -/
theorem exec_eq_execNext (i : Instr) (s : State) : exec i s = .next (execNext i s) := by
  cases i <;> rfl

theorem exec_eq_next (i : Instr) (s t : State) : exec i s = .next t ↔ t = execNext i s := by
  simp [exec_eq_execNext, eq_comm]

/-! ### The comparator's predicates (R120) -/

@[simp] theorem predHolds_lt (o : CmpOutcome) : predHolds .lt o = true ↔ o = .lt := by cases o <;> decide
@[simp] theorem predHolds_le (o : CmpOutcome) : predHolds .le o = true ↔ o = .lt ∨ o = .eq := by cases o <;> decide
@[simp] theorem predHolds_gt (o : CmpOutcome) : predHolds .gt o = true ↔ o = .gt := by cases o <;> decide
@[simp] theorem predHolds_ge (o : CmpOutcome) : predHolds .ge o = true ↔ o = .gt ∨ o = .eq := by cases o <;> decide
@[simp] theorem predHolds_eq (o : CmpOutcome) : predHolds .eq o = true ↔ o = .eq := by cases o <;> decide
@[simp] theorem predHolds_ne (o : CmpOutcome) : predHolds .ne o = true ↔ o = .lt ∨ o = .gt := by cases o <;> decide

/-! ### Which classes write a state element (the "written by" column of R20) -/

section Writers

variable (v : Word) (t : State)

@[simp] theorem handlerWrite_cfg (i : Instr) : (handlerWrite v t i).cfg = t.cfg := by cases i <;> rfl
@[simp] theorem handlerWrite_prog (i : Instr) : (handlerWrite v t i).prog = t.prog := by cases i <;> rfl
@[simp] theorem handlerWrite_status (i : Instr) : (handlerWrite v t i).status = t.status := by cases i <;> rfl
@[simp] theorem handlerWrite_stopRequested (i : Instr) : (handlerWrite v t i).stopRequested = t.stopRequested := by
  cases i <;> rfl

variable {i : Instr}

theorem handlerWrite_retAddr (h : i.cls ≠ .call) : (handlerWrite v t i).retAddr = t.retAddr := by
  cases i
  case call => exact absurd rfl h
  all_goals rfl

theorem handlerWrite_lit (h : i.cls ≠ .lith) : (handlerWrite v t i).lit = t.lit := by
  cases i
  case lith => exact absurd rfl h
  all_goals rfl

theorem handlerWrite_sel (h : i.cls ≠ .bus) : (handlerWrite v t i).sel = t.sel := by
  cases i
  case bus => exact absurd rfl h
  all_goals rfl

theorem handlerWrite_a (h : i.cls ≠ .seta) : (handlerWrite v t i).a = t.a := by
  cases i
  case seta => exact absurd rfl h
  all_goals rfl

theorem handlerWrite_b (h : i.cls ≠ .setb) : (handlerWrite v t i).b = t.b := by
  cases i
  case setb => exact absurd rfl h
  all_goals rfl

theorem handlerWrite_carry (h : i.cls ≠ .setc) : (handlerWrite v t i).carry = t.carry := by
  cases i
  case setc => exact absurd rfl h
  all_goals rfl

theorem handlerWrite_flags (h : i.cls ≠ .setf) : (handlerWrite v t i).flags = t.flags := by
  cases i
  case setf => exact absurd rfl h
  all_goals rfl

theorem handlerWrite_cacheAddr (h : i.cls ≠ .caddr) : (handlerWrite v t i).cacheAddr = t.cacheAddr := by
  cases i
  case caddr => exact absurd rfl h
  all_goals rfl

theorem handlerWrite_cacheData (h : i.cls ≠ .cdata) : (handlerWrite v t i).cacheData = t.cacheData := by
  cases i
  case cdata => exact absurd rfl h
  all_goals rfl

theorem handlerWrite_cache (h : i.cls ≠ .cwr) : (handlerWrite v t i).cache = t.cache := by
  cases i
  case cwr => exact absurd rfl h
  all_goals rfl

theorem handlerWrite_dramAddr (h : i.cls ∉ [OpClass.daddr, .dinc]) : (handlerWrite v t i).dramAddr = t.dramAddr := by
  cases i
  case daddr | dinc => simp [Instr.cls] at h
  all_goals rfl

theorem handlerWrite_dramData (h : i.cls ≠ .ddata) : (handlerWrite v t i).dramData = t.dramData := by
  cases i
  case ddata => exact absurd rfl h
  all_goals rfl

theorem handlerWrite_dram (h : i.cls ≠ .dwr) : (handlerWrite v t i).dram = t.dram := by
  cases i
  case dwr => exact absurd rfl h
  all_goals rfl

theorem handlerWrite_port (h : i.cls ∉ deviceClasses) : (handlerWrite v t i).port = t.port := by
  cases i
  case tcolor | tchar | tcursor | ucfg | utx | rtc | kbd | timer | spkr | vpix | vblink | serdrv =>
    simp [Instr.cls, deviceClasses] at h
  all_goals rfl

/-- No handler writes the low half of LIT: it is the folded immediate that it leaves (R82). -/
theorem handlerWrite_lit_low (i : Instr) : (handlerWrite v t i).lit.toNat % 65536 = t.lit.toNat % 65536 := by
  cases i
  case lith d => simp [handlerWrite, setHigh_toNat]
  all_goals rfl

/-- A conditional jump that moves PC is taken. -/
theorem predHolds_of_jumpWhen_pc_ne {p : CmpPred} {d : Imm} (h : (jumpWhen p d t).pc ≠ t.pc) :
    predHolds p (outcome t) = true := by
  by_contra hp
  exact h (if_neg hp)

/-- Beyond the increment, PC is moved by a transfer only (the PC row of R20). -/
theorem transfers_of_handlerWrite_pc_ne (h : (handlerWrite v t i).pc ≠ t.pc) : transfers t i.cls := by
  cases i
  case jmp | call | ret => simp [transfers, Instr.cls]
  case jlt | jle | jgt | jge | jeq | jne => simpa [transfers, Instr.cls] using predHolds_of_jumpWhen_pc_ne t h
  all_goals exact absurd rfl h

end Writers

end Sys2Proof.Machine
end

section
/-! SUPPORT. What one step does to one state element, and when a step exists. -/

namespace Sys2Proof.Machine

variable {s t : State}

theorem foldLow_high (lit : Word) (d : Imm) : (foldLow lit d).toNat / 65536 = lit.toNat / 65536 := by
  have hd := d.isLt
  rw [foldLow_toNat]
  omega

theorem foldLow_low (lit : Word) (d : Imm) : (foldLow lit d).toNat % 65536 = d.toNat := by
  have hd := d.isLt
  rw [foldLow_toNat]
  omega

/-- The incremented PC as the spec's arithmetic (R23). -/
theorem afterFetch_pc_eq_nextIndex (d : Imm) (s : State) : (afterFetch d s).pc = Spec.nextIndex s := by
  apply BitVec.eq_of_toNat_eq
  simp [Spec.nextIndex, BitVec.toNat_add]

/-- An executed instruction's immediate is the data field of the fetched word. -/
theorem State.Executes.data_eq {i : Instr} (h : s.Executes i) : i.data = dataOf s.nextWord :=
  ((decodeWord_eq_ok _ _ _).mp h.2).2

/-- A requested stop keeps the core from fetching (R216). -/
theorem not_fetching_of_stopRequested (h : s.stopRequested = true) : ¬ s.Fetching :=
  fun ⟨_, hstop, _⟩ => by simp [h] at hstop

/-- PC beyond program memory keeps the core from fetching (R203). -/
theorem not_fetching_of_progLen_le (h : s.cfg.progLen ≤ s.pc.toNat) : ¬ s.Fetching :=
  fun ⟨_, _, hpc⟩ => absurd hpc (Nat.not_lt.mpr h)

/-- A word whose type has no handler executes no instruction (R201). -/
theorem not_executes_of_no_handler (h : ∀ c, s.cfg.opcodeMap.code c ≠ typeOf s.nextWord) (i : Instr) :
    ¬ s.Executes i := by
  rintro ⟨_, hdecode⟩
  simp [(decodeWord_eq_error _ s.nextWord _).mpr ⟨h, rfl⟩] at hdecode

/-- A state element that the run status does not touch stays in a step that fetches nothing, is what the fetch makes of it
when the word has no handler, and what the instruction makes of it otherwise. -/
theorem step_element_cases {α : Type} (f : State → α) (h : step s = .next t)
    (hstatus : ∀ s st, f (State.setStatus s st) = f s := by exact fun _ _ => rfl) :
    f t = f s ∨ (s.Fetching ∧ f t = f (afterFetch (dataOf s.nextWord) s)) ∨
      ∃ i, s.Executes i ∧ f t = f (execNext i s) := by
  obtain ⟨-, ⟨-, rfl⟩ | ⟨-, -, rfl⟩ | ⟨hfetching, -, rfl⟩ | ⟨i, hi, hexec⟩⟩ := step_cases s t h
  · exact .inl (hstatus _ _)
  · exact .inl (hstatus _ _)
  · exact .inr (.inl ⟨hfetching, hstatus _ _⟩)
  · exact .inr (.inr ⟨i, hi, congrArg f ((exec_eq_next i s t).mp hexec)⟩)

/-- A state element that differs after a step shows a fetch. -/
theorem fetching_of_element_ne {α : Type} (f : State → α) (h : step s = .next t) (hne : f t ≠ f s)
    (hstatus : ∀ s st, f (State.setStatus s st) = f s := by exact fun _ _ => rfl) : s.Fetching := by
  obtain hkeep | ⟨hfetching, -⟩ | ⟨i, hi, -⟩ := step_element_cases f h hstatus
  · exact absurd hkeep hne
  · exact hfetching
  · exact hi.1

/-- A state element that the fetch leaves alone and that differs after a step shows one of its writers. -/
theorem executes_writer_of_element_ne {α : Type} (f : State → α) (writers : List OpClass)
    (hframe : ∀ v t {i : Instr}, i.cls ∉ writers → f (handlerWrite v t i) = f t)
    (h : step s = .next t) (hne : f t ≠ f s)
    (hstatus : ∀ s st, f (State.setStatus s st) = f s := by exact fun _ _ => rfl)
    (hfetch : ∀ d s, f (afterFetch d s) = f s := by exact fun _ _ => rfl) :
    ∃ i, s.Executes i ∧ i.cls ∈ writers := by
  obtain hkeep | ⟨-, hft⟩ | ⟨i, hi, hft⟩ := step_element_cases f h hstatus
  · exact absurd hkeep hne
  · exact absurd (hft.trans (hfetch _ _)) hne
  · refine ⟨i, hi, ?_⟩
    by_contra hc
    exact hne (hft.trans ((hframe _ _ hc).trans (hfetch _ _)))

/-- The same for an element with a single writer, named as an instruction. -/
theorem executes_instr_of_element_ne {α : Type} (f : State → α) (c : OpClass)
    (hframe : ∀ v t {i : Instr}, i.cls ≠ c → f (handlerWrite v t i) = f t)
    (h : step s = .next t) (hne : f t ≠ f s)
    (hstatus : ∀ s st, f (State.setStatus s st) = f s := by exact fun _ _ => rfl)
    (hfetch : ∀ d s, f (afterFetch d s) = f s := by exact fun _ _ => rfl) :
    ∃ d, s.Executes (c.instr d) := by
  obtain ⟨i, hi, hc⟩ := executes_writer_of_element_ne f [c]
    (fun v t _ hni => hframe v t (by simpa using hni)) h hne hstatus hfetch
  obtain rfl := List.mem_singleton.mp hc
  exact ⟨i.data, by rwa [Instr.instr_of_cls]⟩

/-- A state element that neither the fetch nor a handler writes stays in every step. -/
theorem step_keeps_element {α : Type} (f : State → α) (hframe : ∀ v t i, f (handlerWrite v t i) = f t)
    (h : step s = .next t)
    (hstatus : ∀ s st, f (State.setStatus s st) = f s := by exact fun _ _ => rfl)
    (hfetch : ∀ d s, f (afterFetch d s) = f s := by exact fun _ _ => rfl) : f t = f s := by
  by_contra hne
  obtain ⟨i, -, hi⟩ := executes_writer_of_element_ne f [] (fun v t i _ => hframe v t i) h hne hstatus hfetch
  exact List.not_mem_nil hi

/-- A core with a reason to halt answers it (R207, R216). -/
theorem step_eq_fault {reason : Fault} (h : haltReason s.status = some reason) : step s = .fault reason := by
  simp [step, h]

/-- A running core takes a step, whatever it fetches (R36). -/
theorem step_exists_of_running (h : s.status = .running) : ∃ t, step s = .next t := by
  have hr := (haltReason_eq_none s.status).mpr h
  cases hs : s.stopRequested with
  | true => exact ⟨takeStop s, by simp [step, hr, hs]⟩
  | false =>
    cases hf : fetch s with
    | none => exact ⟨raiseFetchOutOfRange s, by simp [step, hr, hs, hf]⟩
    | some w =>
      cases hd : decodeWord s.cfg.opcodeMap w with
      | error e => exact ⟨raiseUnknownOpcode w s, by simp [step, hr, hs, hf, hd]⟩
      | ok i => exact ⟨execNext i s, by simp [step, hr, hs, hf, hd, exec_eq_execNext]⟩

end Sys2Proof.Machine
end

section
/-! SUPPORT. The registers that few instructions read (the "read by" column of R20): a handler that neither reads nor
writes one of them commutes with a change of it, and the bus never reads them. -/

namespace Sys2Proof.Machine

variable (v : Word) (t : State)

@[simp] theorem bus_setCacheData (x : Word) : bus (t.setCacheData x) = bus t :=
  sourceValue_congr _ _ _ rfl rfl rfl rfl rfl rfl rfl rfl rfl

@[simp] theorem bus_setDramData (y : Word) : bus (t.setDramData y) = bus t :=
  sourceValue_congr _ _ _ rfl rfl rfl rfl rfl rfl rfl rfl rfl

@[simp] theorem bus_setRetAddr (r : ProgIndex) : bus (t.setRetAddr r) = bus t :=
  sourceValue_congr _ _ _ rfl rfl rfl rfl rfl rfl rfl rfl rfl

@[simp] theorem bus_setFlags (f : Word) : bus (t.setFlags f) = bus t :=
  sourceValue_congr _ _ _ rfl rfl rfl rfl rfl rfl rfl rfl rfl

variable {i : Instr}

theorem handlerWrite_setCacheData (x : Word) (h : i.cls ∉ [OpClass.cwr, .cdata]) :
    handlerWrite v (t.setCacheData x) i = (handlerWrite v t i).setCacheData x := by
  cases i
  case cwr | cdata => simp [Instr.cls] at h
  all_goals rfl

theorem handlerWrite_setDramData (y : Word) (h : i.cls ∉ [OpClass.dwr, .ddata]) :
    handlerWrite v (t.setDramData y) i = (handlerWrite v t i).setDramData y := by
  cases i
  case dwr | ddata => simp [Instr.cls] at h
  all_goals rfl

theorem handlerWrite_setRetAddr (r : ProgIndex) (h : i.cls ∉ [OpClass.ret, .call]) :
    handlerWrite v (t.setRetAddr r) i = (handlerWrite v t i).setRetAddr r := by
  cases i
  case ret | call => simp [Instr.cls] at h
  all_goals rfl

theorem handlerWrite_setFlags (f : Word) (h : i.cls ∉ [OpClass.jlt, .jle, .jgt, .jge, .jeq, .jne, .setf]) :
    handlerWrite v (t.setFlags f) i = (handlerWrite v t i).setFlags f := by
  cases i
  case jlt | jle | jgt | jge | jeq | jne | setf => simp [Instr.cls] at h
  all_goals rfl

/-- CDATA overwrites the cache data latch without reading it (R151). -/
theorem handlerWrite_setCacheData_of_cdata (x : Word) (h : i.cls = .cdata) :
    handlerWrite v (t.setCacheData x) i = handlerWrite v t i := by
  cases i
  case cdata => rfl
  all_goals cases h

/-- DDATA overwrites the DRAM data latch without reading it (R155). -/
theorem handlerWrite_setDramData_of_ddata (y : Word) (h : i.cls = .ddata) :
    handlerWrite v (t.setDramData y) i = handlerWrite v t i := by
  cases i
  case ddata => rfl
  all_goals cases h

/-- CALL overwrites the return slot without reading it (R141). -/
theorem handlerWrite_setRetAddr_of_call (r : ProgIndex) (h : i.cls = .call) :
    handlerWrite v (t.setRetAddr r) i = handlerWrite v t i := by
  cases i
  case call => rfl
  all_goals cases h

/-- SETF overwrites the flags latch without reading it (R122). -/
theorem handlerWrite_setFlags_of_setf (f : Word) (h : i.cls = .setf) :
    handlerWrite v (t.setFlags f) i = handlerWrite v t i := by
  cases i
  case setf => rfl
  all_goals cases h

/-- An instruction runs from a state changed by `u` as its handler does, when `u` does not reach the bus and is none of
the fetch's business. -/
theorem exec_changed (i : Instr) (s : State) (u : State → State) (hbus : ∀ t, bus (u t) = bus t)
    (hfetch : ∀ d s, afterFetch d (u s) = u (afterFetch d s) := by exact fun _ _ => rfl) :
    exec i (u s) = .next (handlerWrite (bus (afterFetch i.data s)) (u (afterFetch i.data s)) i) := by
  rw [exec_eq_execNext, execNext, hfetch, hbus]

end Sys2Proof.Machine
end

section
/-! The statements about the state elements: when a step exists (O12), what each element is written by (O51), and what the
data latches, the return slot and the flags latch are read by (O52). -/

namespace Sys2Proof.Machine

open Sys2Proof.Spec

/-- Settles O12. -/
theorem stepExistsExactlyWhileRunning : Obligations.StepExistsExactlyWhileRunning := by
  refine ⟨fun s => ⟨fun ⟨t, h⟩ => (step_cases s t h).1, step_exists_of_running⟩, fun s r h => ?_, fun s h => ?_,
    fun s draw => ?_⟩
  · exact step_eq_fault (by rw [h]; rfl)
  · exact step_eq_fault (by rw [h]; rfl)
  · simp [resetPort_eq]

/-- Beyond the next index, PC is moved by an executed transfer only (the PC row of R20). -/
theorem executes_transfer_of_pc_ne {s t : State} (h : step s = .next t) (hne : t.pc ≠ s.pc)
    (hnext : t.pc ≠ nextIndex s) : ∃ i, s.Executes i ∧ transfers s i.cls := by
  obtain hkeep | ⟨-, hpc⟩ | ⟨i, hi, hpc⟩ := step_element_cases State.pc h
  · exact absurd hkeep hne
  · exact absurd (hpc.trans (afterFetch_pc_eq_nextIndex _ s)) hnext
  · refine ⟨i, hi, transfers_of_handlerWrite_pc_ne (bus (afterFetch i.data s)) (afterFetch i.data s) fun hkeep => ?_⟩
    exact hnext <| hpc.trans (hkeep.trans (afterFetch_pc_eq_nextIndex _ s))

/-- A low half of LIT that differs is the immediate of the fetched word, executed or not (R80, R82, R201). -/
theorem lit_low_of_ne {s t : State} (h : step s = .next t) (hne : t.lit.toNat % 65536 ≠ s.lit.toNat % 65536) :
    s.Fetching ∧ t.lit.toNat % 65536 = (dataOf s.nextWord).toNat := by
  obtain hkeep | ⟨hfetching, hlit⟩ | ⟨i, hi, hlit⟩ := step_element_cases (fun s => s.lit.toNat % 65536) h
  · exact absurd hkeep hne
  · exact ⟨hfetching, hlit.trans (foldLow_low _ _)⟩
  · refine ⟨hi.1, ?_⟩
    calc t.lit.toNat % 65536
        = (afterFetch i.data s).lit.toNat % 65536 := hlit.trans (handlerWrite_lit_low _ _ i)
      _ = i.data.toNat := foldLow_low _ _
      _ = (dataOf s.nextWord).toNat := by rw [hi.data_eq]

/-- The high half of LIT is written by LITH only: the fold keeps it (R25, R82, R86). -/
theorem executes_lith_of_lit_high_ne {s t : State} (h : step s = .next t)
    (hne : t.lit.toNat / 65536 ≠ s.lit.toNat / 65536) : ∃ d, s.Executes (.lith d) :=
  executes_instr_of_element_ne (fun s => s.lit.toNat / 65536) .lith
    (fun v t _ hc => by rw [handlerWrite_lit v t hc]) h hne (hfetch := fun _ _ => foldLow_high _ _)

/-- DRAM_ADDR is written by DADDR and DINC only (R20, R153, R154). -/
theorem executes_daddr_or_dinc_of_dramAddr_ne {s t : State} (h : step s = .next t) (hne : t.dramAddr ≠ s.dramAddr) :
    ∃ d, s.Executes (.daddr d) ∨ s.Executes (.dinc d) := by
  obtain ⟨i, hi, hc⟩ := executes_writer_of_element_ne State.dramAddr [.daddr, .dinc] handlerWrite_dramAddr h hne
  refine ⟨i.data, ?_⟩
  rw [← Instr.instr_of_cls i] at hi
  simp only [List.mem_cons, List.not_mem_nil, or_false] at hc
  exact hc.imp (fun hc => by rwa [hc] at hi) (fun hc => by rwa [hc] at hi)

/-- The run status is changed by the stop and by the two reachable faults, and then no instruction was executed (R36). -/
theorem status_of_ne {s t : State} (h : step s = .next t) (hne : t.status ≠ s.status) :
    (∀ i, ¬ s.Executes i) ∧
      ((s.stopRequested = true ∧ t.status = .stopped) ∨
       (s.stopRequested = false ∧ s.cfg.progLen ≤ s.pc.toNat ∧ t.status = .faulted (.fetchOutOfRange s.pc)) ∨
       (s.Fetching ∧ t.status = .faulted (.unknownOpcode (typeOf s.nextWord)))) := by
  obtain ⟨-, ⟨hstop, rfl⟩ | ⟨hstop, hpc, rfl⟩ | ⟨hfetching, hnone, rfl⟩ | ⟨i, hi, hexec⟩⟩ := step_cases s t h
  · exact ⟨fun i hi => not_fetching_of_stopRequested hstop hi.1, .inl ⟨hstop, rfl⟩⟩
  · exact ⟨fun i hi => not_fetching_of_progLen_le hpc hi.1, .inr (.inl ⟨hstop, hpc, rfl⟩)⟩
  · exact ⟨not_executes_of_no_handler hnone, .inr (.inr ⟨hfetching, rfl⟩)⟩
  · rw [(exec_eq_next i s t).mp hexec, execNext, handlerWrite_status] at hne
    exact absurd rfl hne

/-- Settles O51, clause by clause from what one step does to one state element. -/
theorem onlyListedInstructionsWrite : Obligations.OnlyListedInstructionsWrite := by
  intro s t h
  exact ⟨
    fetching_of_element_ne State.pc h,
    executes_transfer_of_pc_ne h,
    lit_low_of_ne h,
    executes_writer_of_element_ne State.port deviceClasses handlerWrite_port h,
    executes_instr_of_element_ne State.retAddr .call handlerWrite_retAddr h,
    executes_lith_of_lit_high_ne h,
    executes_instr_of_element_ne State.sel .bus handlerWrite_sel h,
    executes_instr_of_element_ne State.a .seta handlerWrite_a h,
    executes_instr_of_element_ne State.b .setb handlerWrite_b h,
    executes_instr_of_element_ne State.carry .setc handlerWrite_carry h,
    executes_instr_of_element_ne State.flags .setf handlerWrite_flags h,
    executes_instr_of_element_ne State.cacheAddr .caddr handlerWrite_cacheAddr h,
    executes_instr_of_element_ne State.cacheData .cdata handlerWrite_cacheData h,
    executes_instr_of_element_ne State.cache .cwr handlerWrite_cache h,
    executes_daddr_or_dinc_of_dramAddr_ne h,
    executes_instr_of_element_ne State.dramData .ddata handlerWrite_dramData h,
    executes_instr_of_element_ne State.dram .dwr handlerWrite_dram h,
    status_of_ne h,
    step_keeps_element State.prog handlerWrite_prog h,
    step_keeps_element State.cfg handlerWrite_cfg h,
    step_keeps_element State.stopRequested handlerWrite_stopRequested h⟩

/-- Settles O52: the changed run is the handler's on the changed state (`exec_changed`), and the handler commutes with the
change, or overwrites it. -/
theorem unreadRegistersDoNotInfluence : Obligations.UnreadRegistersDoNotInfluence := by
  intro i s x y f r
  have hcache := exec_changed i s (·.setCacheData x) (bus_setCacheData · x)
  have hdram := exec_changed i s (·.setDramData y) (bus_setDramData · y)
  have hret := exec_changed i s (·.setRetAddr r) (bus_setRetAddr · r)
  have hflags := exec_changed i s (·.setFlags f) (bus_setFlags · f)
  exact ⟨execNext i s, exec_eq_execNext i s,
    fun h => hcache.trans (congrArg _ (handlerWrite_setCacheData _ _ x h)),
    fun h => hdram.trans (congrArg _ (handlerWrite_setDramData _ _ y h)),
    fun h => hret.trans (congrArg _ (handlerWrite_setRetAddr _ _ r h)),
    fun h => hflags.trans (congrArg _ (handlerWrite_setFlags _ _ f h)),
    fun h => hcache.trans (congrArg _ (handlerWrite_setCacheData_of_cdata _ _ x h)),
    fun h => hdram.trans (congrArg _ (handlerWrite_setDramData_of_ddata _ _ y h)),
    fun h => hret.trans (congrArg _ (handlerWrite_setRetAddr_of_call _ _ r h)),
    fun h => hflags.trans (congrArg _ (handlerWrite_setFlags_of_setf _ _ f h))⟩

end Sys2Proof.Machine
end

section
/-! SUPPORT. Runs, taken apart step by step, and the induction over them, said once. -/

namespace Sys2Proof.Machine

variable {s t : State}

theorem reachesIn_zero_iff : ReachesIn 0 s t ↔ s = t :=
  ⟨fun h => by cases h; rfl, fun h => by cases h; rfl⟩

/-- A run of one more step is a step, and a run from where it leads. -/
theorem reachesIn_succ_iff (n : Nat) : ReachesIn (n + 1) s t ↔ ∃ u, step s = .next u ∧ ReachesIn n u t := by
  have hcore : core.step s = step s := rfl
  simp only [ReachesIn, Host.Core.run, hcore]
  cases step s <;> simp

/-- What every step keeps, every run keeps. -/
theorem Reaches.keeps {P : State → Prop} (hkeeps : ∀ u v, P u → step u = .next v → P v) (h : Reaches s t)
    (hs : P s) : P t := by
  obtain ⟨n, hn⟩ := h
  induction n generalizing s with
  | zero => exact reachesIn_zero_iff.mp hn ▸ hs
  | succ n ih =>
    obtain ⟨u, hstep, hrest⟩ := (reachesIn_succ_iff n).mp hn
    exact ih (hkeeps s u hs hstep) hrest

/-- A state element that neither the fetch nor a handler nor the run status writes stays in every run. -/
theorem Reaches.keeps_element {α : Type} (f : State → α) (hframe : ∀ v t i, f (handlerWrite v t i) = f t)
    (h : Reaches s t)
    (hstatus : ∀ s st, f (State.setStatus s st) = f s := by exact fun _ _ => rfl)
    (hfetch : ∀ d s, f (afterFetch d s) = f s := by exact fun _ _ => rfl) : f t = f s :=
  h.keeps (P := fun u => f u = f s)
    (fun _ _ hu hstep => (step_keeps_element f hframe hstep hstatus hfetch).trans hu) rfl

end Sys2Proof.Machine
end

section
/-! The statement about program memory along runs (O50). -/

namespace Sys2Proof.Machine

/-- Settles O50: no handler writes program memory or the parameters, so no step does, and so no run. -/
theorem runNeverWritesProgramMemory : Obligations.RunNeverWritesProgramMemory :=
  fun _ _ h => ⟨h.keeps_element State.prog handlerWrite_prog, h.keeps_element State.cfg handlerWrite_cfg⟩

end Sys2Proof.Machine
end


section
/-! The statement about the fields of an instruction word (O1). -/

namespace Sys2Proof.Machine

/-- R62, from the word: its two fields joined are the word again, as quotient and remainder by 2^16. -/
theorem wordOf_typeOf_dataOf (w : ProgWord) : wordOf (typeOf w) (dataOf w) = w := by
  apply BitVec.eq_of_toNat_eq
  rw [wordOf_toNat, typeOf_toNat, dataOf_toNat]
  exact Nat.div_add_mod' w.toNat 65536

/-- Settles O1: R61's field positions and R62's round trip, from the word and from the pair. -/
theorem fieldsPartitionWord : Obligations.FieldsPartitionWord :=
  ⟨fun w => ⟨typeOf_toNat w, dataOf_toNat w, wordOf_typeOf_dataOf w⟩,
    fun t d => ⟨typeOf_wordOf t d, dataOf_wordOf t d⟩⟩

end Sys2Proof.Machine
end

section
/-! SUPPORT. The rest of what a step and a program-order run do to a state: a step that executes an instruction, two
immediates folded one after the other, and what each instruction of a list keeps. -/

namespace Sys2Proof.Machine

variable {s t : State} {i : Instr}

/-- A step that executes an instruction leads to the state the instruction leaves (R80). -/
theorem step_of_executes (h : s.Executes i) : step s = .next (execNext i s) := by
  obtain ⟨⟨hrun, hstop, hpc⟩, hdecode⟩ := h
  have hreason := (haltReason_eq_none s.status).mpr hrun
  have hfetch : fetch s = some s.nextWord := (fetch_eq_some s _).mpr ⟨hpc, rfl⟩
  simp [step, hreason, hstop, hfetch, hdecode, exec_eq_execNext]

/-- What is executed next is settled by the parameters, PC, program memory, the run status and the stop input. -/
theorem executes_congr (hcfg : t.cfg = s.cfg) (hpc : t.pc = s.pc) (hprog : t.prog = s.prog)
    (hstatus : t.status = s.status) (hstop : t.stopRequested = s.stopRequested) : t.Executes i ↔ s.Executes i := by
  simp only [State.Executes, State.Fetching, State.nextWord, hcfg, hpc, hprog, hstatus, hstop]

/-- A state that a step leads back to is where every run from it leads. -/
theorem reachesIn_self (h : step t = .next t) (n : Nat) : ReachesIn n t t := by
  induction n with
  | zero => exact reachesIn_zero_iff.mpr rfl
  | succ n ih => exact (reachesIn_succ_iff n).mpr ⟨t, h, ih⟩

/-- Of two folds the later one stays: a fold replaces the whole low half (R82). -/
@[simp] theorem foldLow_foldLow (lit : Word) (d d' : Imm) : foldLow (foldLow lit d) d' = foldLow lit d' := by
  apply BitVec.eq_of_toNat_eq
  rw [foldLow_toNat, foldLow_high, foldLow_toNat]

/-- LITH on the folded literal: the immediate in both halves (R82, R86). -/
theorem setHigh_foldLow_self (lit : Word) (d : Imm) :
    setHigh (foldLow lit d) d = BitVec.ofNat 32 (d.toNat * 65536 + d.toNat) := by
  have hd := d.isLt
  apply BitVec.eq_of_toNat_eq
  rw [setHigh_toNat, foldLow_low, BitVec.toNat_ofNat]
  omega

/-- LITH's whole next state, over the fetch (R86). -/
theorem execNext_lith (d : Imm) (s : State) :
    execNext (.lith d) s = (s.setPc (Spec.nextIndex s)).setLit (setHigh (foldLow s.lit d) d) := by
  rw [← afterFetch_pc_eq_nextIndex d]
  rfl

/-- JMP's whole next state (R140). -/
theorem execNext_jmp (d : Imm) (s : State) : execNext (.jmp d) s = (s.setLit (foldLow s.lit d)).setPc d := rfl

/-- The high half of LIT stays in every instruction that is not LITH (R82, R86). -/
theorem execNext_lit_high (h : i.cls ≠ .lith) (s : State) :
    (execNext i s).lit.toNat / 65536 = s.lit.toNat / 65536 := by
  rw [execNext, handlerWrite_lit _ _ h]
  exact foldLow_high s.lit i.data

@[simp] theorem execAll_nil (s : State) : execAll [] s = .next s := rfl

@[simp] theorem execAll_cons (i : Instr) (body : List Instr) (s : State) :
    execAll (i :: body) s = execAll body (execNext i s) := by
  simp [execAll, exec_eq_execNext]

/-- Instructions in program order complete (R208), and keep what each of them keeps. -/
theorem execAll_keeps {α : Type} (f : State → α) (body : List Instr)
    (hkeeps : ∀ i ∈ body, ∀ s, f (execNext i s) = f s) (s : State) :
    ∃ t, execAll body s = .next t ∧ f t = f s := by
  induction body generalizing s with
  | nil => exact ⟨s, execAll_nil s, rfl⟩
  | cons i body ih =>
    obtain ⟨hfirst, hrest⟩ := List.forall_mem_cons.mp hkeeps
    obtain ⟨t, ht, hft⟩ := ih hrest (execNext i s)
    exact ⟨t, (execAll_cons i body s).trans ht, hft.trans (hfirst s)⟩

end Sys2Proof.Machine
end

section
/-! The statement about LITH (O15). -/

namespace Sys2Proof.Machine

/-- Settles O15: LITH meets a low half that already holds its immediate, and every other instruction keeps the high half. -/
theorem lithAloneWritesTheHighHalf : Obligations.LithAloneWritesTheHighHalf := by
  refine ⟨fun d s => ?_, fun _ _ => rfl, fun body s hbody => ?_⟩
  · rw [exec_eq_next, execNext_lith, setHigh_foldLow_self]
    rfl
  · exact execAll_keeps (fun s => s.lit.toNat / 65536) body (fun i hi => execNext_lit_high (hbody i hi)) s

end Sys2Proof.Machine
end

section
/-! The statement about a jump to itself (O34). -/

namespace Sys2Proof.Machine

variable {s : State}

/-- A jump to the index it stands at is executed again in the state it leaves: LIT is all that it changes. -/
theorem executes_jmp_self_again (h : s.Executes (.jmp s.pc)) : (execNext (.jmp s.pc) s).Executes (.jmp s.pc) := by
  rw [execNext_jmp]
  exact (executes_congr rfl rfl rfl rfl rfl).mpr h

/-- A second jump to the same index changes nothing more: PC is there and the immediate is folded. -/
theorem execNext_jmp_execNext_jmp (d : Imm) (s : State) :
    execNext (.jmp d) (execNext (.jmp d) s) = execNext (.jmp d) s :=
  calc execNext (.jmp d) (execNext (.jmp d) s)
      = (s.setLit (foldLow (foldLow s.lit d) d)).setPc d := rfl
    _ = execNext (.jmp d) s := by rw [foldLow_foldLow, execNext_jmp]

/-- Settles O34: the first step leads to a state that its own step leads back to, with the stop input never asserted
(decision D14, log 9). -/
theorem selfJumpRunsForever : Obligations.SelfJumpRunsForever := by
  intro s h
  have hfirst := step_of_executes h
  have hagain : step (execNext (.jmp s.pc) s) = .next (execNext (.jmp s.pc) s) := by
    rw [step_of_executes (executes_jmp_self_again h), execNext_jmp_execNext_jmp]
  obtain ⟨⟨hrun, -, -⟩, -⟩ := h
  exact ⟨execNext (.jmp s.pc) s, hrun, rfl,
    fun n => (reachesIn_succ_iff n).mpr ⟨_, hfirst, reachesIn_self hagain n⟩⟩

end Sys2Proof.Machine
end

section
/-! SUPPORT. The bus source by source, and the fetch and the bus of a handler in the spec's own arithmetic
(41_bus_alu.md R100 to R108, 40_dispatch_literal.md R80). -/

namespace Sys2Proof.Machine

variable {s : State} {src : BusSource}

/-- The bus carries the value of the source that SEL names (R100). -/
theorem bus_of_busSource (h : busSource s = src) : bus s = sourceValue src s := by
  rw [bus, h]

/-- The fetch reaches the bus through the literal register only: every other source keeps its value (R37, R101). -/
theorem bus_afterFetch_of_not_isLiteral (h : (busSource s).isLiteral = false) (d : Imm) :
    bus (afterFetch d s) = bus s := by
  rw [bus, busSource_afterFetch, bus]
  cases hsrc : busSource s
  case lit | state | dev0 | dev1 | dev2 | dev3 | dev4 => simp [hsrc, BusSource.isLiteral] at h
  all_goals rfl

/-- Adding the complement of `y` and a carry subtracts `y` (R108). -/
theorem aluSum_not_true (a y : Word) : aluSum a (~~~y) true = a - y :=
  calc aluSum a (~~~y) true
      = a + (~~~y + 1#32) := BitVec.add_assoc a (~~~y) 1#32
    _ = a - y := by rw [← BitVec.neg_eq_not_add, BitVec.sub_eq_add_neg]

theorem aluSum_comm (a b : Word) (carry : Bool) : aluSum a b carry = aluSum b a carry := by
  rw [aluSum, BitVec.add_comm a b, aluSum]

/-- The fold as the spec's arithmetic (R82). -/
theorem foldLow_eq_folded (s : State) (d : Imm) : foldLow s.lit d = Spec.folded s d := by
  have hlt := (foldLow s.lit d).isLt
  apply BitVec.eq_of_toNat_eq
  rw [Spec.folded, BitVec.toNat_ofNat, ← foldLow_toNat, Nat.mod_eq_of_lt hlt]

/-- The state after the fetch as the spec's (R80). -/
theorem afterFetch_eq_fetched (d : Imm) (s : State) : afterFetch d s = Spec.fetched d s := by
  rw [Spec.fetched, ← afterFetch_pc_eq_nextIndex d s, ← foldLow_eq_folded]
  rfl

/-- The value of each source after the fetch as the spec's arithmetic on the fields before it (R100 to R108). -/
theorem bus_afterFetch (s : State) (d : Imm) : bus (afterFetch d s) = Spec.busAt s d := by
  unfold bus Spec.busAt
  rw [busSource_afterFetch, busSource]
  cases s.cfg.selectorMap.source s.sel
  case lit | state | dev0 | dev1 | dev2 | dev3 | dev4 => exact foldLow_eq_folded s d
  case dramData | dramAddr | cacheData => rfl
  case shl => exact BitVec.eq_of_toNat_eq (by rw [BitVec.toNat_ofNat]; exact aluShl_toNat s.a)
  case shr =>
    have ha := s.a.isLt
    exact BitVec.eq_of_toNat_eq (by rw [BitVec.toNat_ofNat, Nat.mod_eq_of_lt (by omega)]; exact aluShr_toNat s.a)
  case sum => exact BitVec.eq_of_toNat_eq (by rw [BitVec.toNat_ofNat]; exact aluSum_toNat s.a s.b s.carry)
  case and | or | xor =>
    ext i hi
    simp [sourceValue]

/-- Every instruction's whole next state in the spec's terms: its handler's write, from the bus value and over the fetched
state that the spec gives. -/
theorem exec_eq_handlerWrite_busAt (i : Instr) (s : State) :
    exec i s = .next (handlerWrite (Spec.busAt s i.data) (Spec.fetched i.data s) i) := by
  rw [exec_eq_execNext, execNext, bus_afterFetch, afterFetch_eq_fetched]

end Sys2Proof.Machine
end

section
/-! The statements about the ALU sources: the sum (O21), the shift left (O18) and the logic sources (O20). -/

namespace Sys2Proof.Machine

/-- Settles O21: the bus is the sum of A, B and CARRY, and exclusive or with all ones is the complement. -/
theorem sumSourceWrapsAndSubtracts : Obligations.SumSourceWrapsAndSubtracts := by
  intro s h
  have hbus : bus s = aluSum s.a s.b s.carry := bus_of_busSource h
  refine ⟨hbus ▸ aluSum_toNat s.a s.b s.carry, ?_, fun y hb hcarry => ?_⟩
  · have hswapped : bus { s with a := s.b, b := s.a } = aluSum s.b s.a s.carry :=
      bus_of_busSource (s := { s with a := s.b, b := s.a }) h
    rw [hswapped, aluSum_comm, hbus]
  · have hnot : y ^^^ 0xFFFFFFFF = ~~~y := BitVec.xor_allOnes
    rw [hbus, hb, hcarry, hnot, aluSum_not_true]

/-- Settles O18: a bit of A shifted left by one stands one place higher, and no bit of A at place 0. -/
theorem shiftLeftSourceBits : Obligations.ShiftLeftSourceBits := by
  intro s h
  have hbit (i : Nat) : (bus s).getLsbD i = (decide (i < 32) && !decide (i < 1) && s.a.getLsbD (i - 1)) := by
    rw [bus_of_busSource h]
    exact BitVec.getLsbD_shiftLeft s.a 1
  refine ⟨fun i hi => ?_, ?_⟩
  · have hlt : i + 1 < 32 := by omega
    rw [hbit]
    simp [hlt]
  · rw [hbit]
    simp

/-- Settles O20. -/
theorem logicSourceBits : Obligations.LogicSourceBits := by
  intro s i _
  refine ⟨fun h => ?_, fun h => ?_, fun h => ?_⟩
  · rw [bus_of_busSource h]
    exact BitVec.getLsbD_and
  · rw [bus_of_busSource h]
    exact BitVec.getLsbD_or
  · rw [bus_of_busSource h]
    exact BitVec.getLsbD_xor

end Sys2Proof.Machine
end

section
/-! The statement about the memory sources (O22). -/

namespace Sys2Proof.Machine

variable {s : State}

/-- A load of the DRAM data latch alone changes no source but the literal-valued ones (R102, R155). -/
theorem bus_execNext_ddata (h : (busSource s).isLiteral = false) (d : Imm) : bus (execNext (.ddata d) s) = bus s :=
  (bus_setDramData _ _).trans (bus_afterFetch_of_not_isLiteral h d)

/-- A load of the cache data latch alone changes no source but the literal-valued ones (R104, R151). -/
theorem bus_execNext_cdata (h : (busSource s).isLiteral = false) (d : Imm) : bus (execNext (.cdata d) s) = bus s :=
  (bus_setCacheData _ _).trans (bus_afterFetch_of_not_isLiteral h d)

/-- Settles O22. -/
theorem memorySourcesReadTheArray : Obligations.MemorySourcesReadTheArray := by
  intro s
  refine ⟨fun h => ⟨bus_of_busSource h, fun d => ⟨_, exec_eq_execNext _ s, bus_execNext_ddata ?_ d⟩⟩,
    fun h => ⟨bus_of_busSource h, fun d => ⟨_, exec_eq_execNext _ s, bus_execNext_cdata ?_ d⟩⟩, bus_of_busSource⟩
  all_goals rw [h]; rfl

end Sys2Proof.Machine
end

section
/-! The statement about the loads from the bus (O24). -/

namespace Sys2Proof.Machine

/-- FLAGS is kept by every instruction that is not SETF (R30, R122). -/
theorem execNext_flags {i : Instr} (h : i.cls ≠ .setf) (s : State) : (execNext i s).flags = s.flags :=
  handlerWrite_flags _ _ h

/-- Settles O24: the three next states are the handlers' writes over the fetched state, the words are `encode`'s by its
definition, and no other handler writes FLAGS. -/
theorem loadsTakeTheBusValue : Obligations.LoadsTakeTheBusValue := by
  refine ⟨fun d s => ⟨?_, ?_, ?_⟩, fun m d => ⟨rfl, rfl, rfl⟩, fun i s h => ?_⟩
  · exact exec_eq_handlerWrite_busAt (.seta d) s
  · exact exec_eq_handlerWrite_busAt (.setb d) s
  · exact exec_eq_handlerWrite_busAt (.setf d) s
  · exact ⟨execNext i s, exec_eq_execNext i s, execNext_flags h s⟩

end Sys2Proof.Machine
end

section
/-! The statement about the six conditional jumps (O26). -/

namespace Sys2Proof.Machine

open Sys2Proof.Spec

/-- A conditional jump writes PC alone: the immediate when its predicate holds, which the fetch does not change since the
comparator reads only FLAGS and the launch parameter, and the incremented PC otherwise (R129). -/
theorem jumpWhen_fetched {p : CmpPred} {s : State} {taken : Prop} [Decidable taken]
    (htaken : predHolds p (outcome s) = true ↔ taken) (d : Imm) :
    jumpWhen p d (fetched d s) = { fetched d s with pc := if taken then d else nextIndex s } := by
  have hcmp : cmpHolds p (fetched d s) = predHolds p (outcome s) := rfl
  have hpc : (fetched d s).pc = nextIndex s := rfl
  simp only [jumpWhen, State.setPc, hcmp, hpc, htaken]

/-- An instruction whose handler jumps on the predicate `p` goes to its immediate exactly when `taken` holds, which says
on which outcomes `p` holds. -/
theorem exec_of_handlerWrite_eq_jumpWhen {i : Instr} {p : CmpPred} {s : State} {taken : Prop} [Decidable taken]
    (hwrite : ∀ v t, handlerWrite v t i = jumpWhen p i.data t)
    (htaken : predHolds p (outcome s) = true ↔ taken) :
    exec i s = .next { fetched i.data s with pc := if taken then i.data else nextIndex s } := by
  rw [exec_eq_handlerWrite_busAt, hwrite, jumpWhen_fetched htaken]

/-- Settles O26: each jump's handler is the conditional jump on its own predicate, and the predicate's row of R120 says
on which outcomes it is taken (R123 to R128). -/
theorem conditionalJumpsFollowTheOutcome : Obligations.ConditionalJumpsFollowTheOutcome := by
  intro d s
  refine ⟨?jlt, ?jle, ?jgt, ?jge, ?jeq, ?jne⟩
  case jlt => exact exec_of_handlerWrite_eq_jumpWhen (i := .jlt d) (fun _ _ => rfl) (predHolds_lt _)
  case jle => exact exec_of_handlerWrite_eq_jumpWhen (i := .jle d) (fun _ _ => rfl) (predHolds_le _)
  case jgt => exact exec_of_handlerWrite_eq_jumpWhen (i := .jgt d) (fun _ _ => rfl) (predHolds_gt _)
  case jge => exact exec_of_handlerWrite_eq_jumpWhen (i := .jge d) (fun _ _ => rfl) (predHolds_ge _)
  case jeq => exact exec_of_handlerWrite_eq_jumpWhen (i := .jeq d) (fun _ _ => rfl) (predHolds_eq _)
  case jne => exact exec_of_handlerWrite_eq_jumpWhen (i := .jne d) (fun _ _ => rfl) (predHolds_ne _)

end Sys2Proof.Machine
end

section
/-! The statement about JMP (O30). -/

namespace Sys2Proof.Machine

open Sys2Proof.Spec

/-- JMP's whole next state in the spec's terms (R140). -/
theorem execNext_jmp_eq_fetched (d : Imm) (s : State) : execNext (.jmp d) s = { fetched d s with pc := d } :=
  ((exec_eq_next _ _ _).mp (exec_eq_handlerWrite_busAt (.jmp d) s)).symm

/-- Settles O30: the write of PC replaces the incremented index, and a second jump to the same index changes nothing. -/
theorem jmpGoesToItsImmediate : Obligations.JmpGoesToItsImmediate := by
  refine ⟨fun d s => ?_, fun _ _ => rfl⟩
  rw [← execNext_jmp_eq_fetched]
  exact ⟨exec_eq_execNext (.jmp d) s, (exec_eq_next _ _ _).mpr (execNext_jmp_execNext_jmp d s).symm⟩

end Sys2Proof.Machine
end

section
/-! SUPPORT. The return slot along instructions in program order: CALL fills it, every other instruction keeps it, RET goes
to it (10_state.md R24, 43_control_flow.md R141, R142). -/

namespace Sys2Proof.Machine

/-- The return slot is kept by every instruction that is not CALL (R24). -/
theorem execNext_retAddr {i : Instr} (h : i.cls ≠ .call) (s : State) : (execNext i s).retAddr = s.retAddr :=
  handlerWrite_retAddr _ _ h

/-- CALL saves the incremented PC (R141). -/
theorem execNext_call_retAddr (d : Imm) (s : State) : (execNext (.call d) s).retAddr = Spec.nextIndex s :=
  afterFetch_pc_eq_nextIndex d s

theorem execNext_ret_pc (d : Imm) (s : State) : (execNext (.ret d) s).pc = s.retAddr := rfl

/-- A list that leads from `s` to `u` can be cut off: the rest goes on from `u`. -/
theorem execAll_append_of_next {body : List Instr} {s u : State} (h : execAll body s = .next u) (rest : List Instr) :
    execAll (body ++ rest) s = execAll rest u := by
  induction body generalizing s with
  | nil =>
    obtain rfl : s = u := by simpa using h
    rfl
  | cons i body ih =>
    rw [execAll_cons] at h
    rw [List.cons_append, execAll_cons, ih h]

/-- Instructions without CALL keep the return slot (R24). -/
theorem execAll_keeps_retAddr {body : List Instr} (hbody : ∀ i ∈ body, i.cls ≠ .call) (s : State) :
    ∃ u, execAll body s = .next u ∧ u.retAddr = s.retAddr :=
  execAll_keeps State.retAddr body (fun i hi => execNext_retAddr (hbody i hi)) s

/-- After instructions without CALL, a return goes to where the return slot pointed before them. -/
theorem execAll_ret_of_no_call {body : List Instr} (hbody : ∀ i ∈ body, i.cls ≠ .call) (d : Imm) (s : State) :
    ∃ t, execAll (body ++ [.ret d]) s = .next t ∧ t.pc = s.retAddr := by
  obtain ⟨u, hu, hslot⟩ := execAll_keeps_retAddr hbody s
  refine ⟨execNext (.ret d) u, ?_, (execNext_ret_pc d u).trans hslot⟩
  rw [execAll_append_of_next hu, execAll_cons, execAll_nil]

/-- A call, instructions without CALL, then a return: PC is the index after the call (R145). -/
theorem execAll_call_ret_of_no_call {body : List Instr} (hbody : ∀ i ∈ body, i.cls ≠ .call) (d d' : Imm) (s : State) :
    ∃ t, execAll (.call d :: body ++ [.ret d']) s = .next t ∧ t.pc = Spec.nextIndex s := by
  rw [List.cons_append, execAll_cons, ← execNext_call_retAddr d s]
  exact execAll_ret_of_no_call hbody d' _

end Sys2Proof.Machine
end

section
/-! The statements about RET (O32) and about a call with its return (O33). -/

namespace Sys2Proof.Machine

/-- Settles O32: the fetch keeps the return slot that RET reads, and without CALL it still holds the 0 of reset. -/
theorem retGoesToTheReturnSlot : Obligations.RetGoesToTheReturnSlot :=
  ⟨fun d s => exec_eq_handlerWrite_busAt (.ret d) s, fun _ _ => rfl,
    fun cfg draw d _ hbody => execAll_ret_of_no_call hbody d (State.resetWith cfg draw)⟩

/-- Settles O33. The nested clause is the first one from the state before the second call: what the return slot held there
is lost. -/
theorem returnRestoresUnlessCallsNest : Obligations.ReturnRestoresUnlessCallsNest := by
  refine ⟨fun s d d' _ hbody => execAll_call_ret_of_no_call hbody d d' s, fun s d d' d'' body body' hbody hbody' => ?_⟩
  obtain ⟨u, hu, -⟩ := execAll_keeps_retAddr hbody (execNext (.call d) s)
  have houter : execAll (.call d :: body) s = .next u := (execAll_cons _ _ _).trans hu
  obtain ⟨t, ht, hpc⟩ := execAll_call_ret_of_no_call hbody' d' d'' u
  refine ⟨u, t, houter, ?_, hpc⟩
  rw [List.append_assoc, execAll_append_of_next houter]
  exact ht

end Sys2Proof.Machine
end

section
/-! SUPPORT. A write to a canonical memory, as reads see it (10_state.md R44), and the whole next states of the two
commits (44_memory_ops.md R152, R156). -/

namespace Sys2Proof.Machine

open Sys2Proof.Spec

variable {w len : Nat} {m : Cells w}

/-- A write to a canonical memory is read back, and every other index reads as before (R44). -/
theorem readWord_writeWord_of_wf (h : Memory.wf len m = true) (i : Nat) (v : BitVec w) (k : Nat) :
    readWord (writeWord m i v) k = if k = i then v else readWord m k := by
  obtain ⟨hrising, -⟩ := (Memory.wf_iff len m).mp h
  exact readWord_writeWord m i k v hrising

/-- The same write made again changes no word. -/
theorem readWord_writeWord_writeWord (h : Memory.wf len m = true) (i : Nat) (v : BitVec w) (k : Nat) :
    readWord (writeWord (writeWord m i v) i v) k = readWord (writeWord m i v) k := by
  obtain ⟨hrising, -⟩ := (Memory.wf_iff len m).mp h
  rw [readWord_writeWord _ i k v (pairwise_writeWord m i v hrising)]
  split
  case isTrue hk => rw [readWord_writeWord_of_wf h, if_pos hk]
  case isFalse => rfl

/-- CWR's whole next state: the array takes the data latch at the latched index, the fetch having changed none of the three
(R152). -/
theorem exec_cwr (d : Imm) (s : State) :
    exec (.cwr d) s = .next { fetched d s with cache := writeWord s.cache (cacheIndex s) s.cacheData } :=
  exec_eq_handlerWrite_busAt (.cwr d) s

/-- DWR's whole next state, as CWR's (R156). -/
theorem exec_dwr (d : Imm) (s : State) :
    exec (.dwr d) s = .next { fetched d s with dram := writeWord s.dram (dramIndex s) s.dramData } :=
  exec_eq_handlerWrite_busAt (.dwr d) s

end Sys2Proof.Machine
end

section
/-! The statements about the data latches (O35) and about the commits (O37). -/

namespace Sys2Proof.Machine

/-- Settles O35: the next states are the handlers' writes over the fetched state, and no source of the bus names a data
latch. -/
theorem dataLatchesTakeTheBusValue : Obligations.DataLatchesTakeTheBusValue := by
  refine ⟨fun d s => ⟨?cdata, ?ddata⟩, fun _ _ => ⟨rfl, rfl⟩, fun s x y => ?bus⟩
  case cdata => exact exec_eq_handlerWrite_busAt (.cdata d) s
  case ddata => exact exec_eq_handlerWrite_busAt (.ddata d) s
  case bus =>
    calc bus ((s.setCacheData x).setDramData y)
        = bus (s.setCacheData x) := bus_setDramData _ y
      _ = bus s := bus_setCacheData s x

/-- Settles O37: each commit is one write to its own array, and since it keeps both latches and the length, the commit made
again is the same write. -/
theorem commitWritesExactlyOneWord : Obligations.CommitWritesExactlyOneWord := by
  refine ⟨fun d s => ⟨_, exec_cwr d s, fun h k => ?cacheWord, fun h d' => ⟨_, exec_cwr d' _, fun k => ?cacheAgain⟩⟩,
    fun d s => ⟨_, exec_dwr d s, fun h k => ?dramWord, fun h d' => ⟨_, exec_dwr d' _, fun k => ?dramAgain⟩⟩,
    fun _ _ => ⟨rfl, rfl⟩⟩
  case cacheWord => exact readWord_writeWord_of_wf h (cacheIndex s) s.cacheData k
  case cacheAgain => exact readWord_writeWord_writeWord h (cacheIndex s) s.cacheData k
  case dramWord => exact readWord_writeWord_of_wf h (dramIndex s) s.dramData k
  case dramAgain => exact readWord_writeWord_writeWord h (dramIndex s) s.dramData k

end Sys2Proof.Machine
end

section
/-! SUPPORT. The two ends of a fetched word: the instruction it decodes to completes with its immediate folded, and a type
without a handler ends in the fault that records it (60_exceptions.md R201, R205, R208). -/

namespace Sys2Proof.Machine

open Sys2Proof.Spec

variable {s : State}

/-- Whatever its handler writes, an instruction leaves its own immediate in the low half of LIT (R82). -/
theorem execNext_lit_low (i : Instr) (s : State) : (execNext i s).lit.toNat % 65536 = i.data.toNat :=
  calc (execNext i s).lit.toNat % 65536
      = (afterFetch i.data s).lit.toNat % 65536 := handlerWrite_lit_low _ _ i
    _ = i.data.toNat := foldLow_low s.lit i.data

/-- No instruction enters a fault or a stop, or leaves one (R208). -/
theorem execNext_status (i : Instr) (s : State) : (execNext i s).status = s.status :=
  handlerWrite_status _ _ i

/-- The state of the unknown-opcode fault in the spec's terms: the fetched state, and STATUS (R201, R205). -/
theorem raiseUnknownOpcode_eq_fetched (w : ProgWord) (s : State) :
    raiseUnknownOpcode w s = { fetched (dataOf w) s with status := .faulted (.unknownOpcode (typeOf w)) } := by
  rw [raiseUnknownOpcode, afterFetch_eq_fetched]
  rfl

/-- The step on a fetched word whose type has no handler is the entry of its fault (R201). -/
theorem step_of_no_handler (h : s.Fetching) (hnone : ∀ c, s.cfg.opcodeMap.code c ≠ typeOf s.nextWord) :
    step s = .next (raiseUnknownOpcode s.nextWord s) := by
  obtain ⟨t, ht⟩ := step_exists_of_running h.1
  obtain ⟨-, ⟨hstop, -⟩ | ⟨-, hpc, -⟩ | ⟨-, -, rfl⟩ | ⟨i, hi, -⟩⟩ := step_cases s t ht
  · exact absurd h (not_fetching_of_stopRequested hstop)
  · exact absurd h (not_fetching_of_progLen_le hpc)
  · exact ht
  · exact absurd hi (not_executes_of_no_handler hnone i)

/-- A core that has faulted takes no step (R207). -/
theorem step_ne_next_of_faulted {r : FaultRecord} (h : s.status = .faulted r) (t : State) : step s ≠ .next t := by
  rw [step_eq_fault (reason := .coreFaulted r) (by rw [h]; rfl)]
  nofun

end Sys2Proof.Machine
end

section
/-! The statements about faults: no instruction raises one (O8), what the fetch of a type without a handler records (O9),
and that no step records the selector fault (O13). -/

namespace Sys2Proof.Machine

/-- Settles O8: the next state is the handler's write over the fetch; neither touches the run status, the parameters, program
memory or the stop input. -/
theorem everyInstructionCompletesAndFolds : Obligations.EveryInstructionCompletesAndFolds := fun i s =>
  ⟨execNext i s, exec_eq_execNext i s, execNext_lit_low i s, execNext_status i s, handlerWrite_cfg _ _ i,
    handlerWrite_prog _ _ i, handlerWrite_stopRequested _ _ i⟩

/-- Settles O9: the step is the fault's entry, and the state it leads to has faulted. -/
theorem unknownOpcodeFaultsAfterFold : Obligations.UnknownOpcodeFaultsAfterFold := by
  intro s hfetching hnone
  have hstep := step_of_no_handler hfetching hnone
  refine ⟨hstep.trans (congrArg _ (raiseUnknownOpcode_eq_fetched _ s)), typeOf_toNat s.nextWord, fun t u ht => ?_⟩
  obtain rfl : raiseUnknownOpcode s.nextWord s = t := Host.Outcome.next.inj (hstep.symm.trans ht)
  exact step_ne_next_of_faulted rfl u

/-- Settles O13: a step starts from a running core, so the selector fault would be a change of STATUS, and the stop, the
fetch fault and the unknown opcode are the only ones. -/
theorem selectorFaultNeverRecorded : Obligations.SelectorFaultNeverRecorded := by
  intro s t c h hsel
  obtain ⟨hrun, -⟩ := step_cases s t h
  have hne : t.status ≠ s.status := by simp [hsel, hrun]
  obtain ⟨-, ⟨-, hstopped⟩ | ⟨-, -, hfetch⟩ | ⟨-, hopcode⟩⟩ := status_of_ne h hne
  · exact nomatch hsel.symm.trans hstopped
  · exact nomatch hsel.symm.trans hfetch
  · exact nomatch hsel.symm.trans hopcode

end Sys2Proof.Machine
end

section
/-! SUPPORT. The selector map as a bijection: under a well-formed map every source stands at a code, and SEL_MAP finds that
code (00_scope.md R9, 30_encoding.md R67). -/

namespace Sys2Proof

variable {m : SelectorMap}

theorem BusSource.mem_all (src : BusSource) : src ∈ BusSource.all := by cases src <;> decide

/-- Sixteen different sources are all the sources there are: a list of them without repetition rearranges R67's. -/
theorem BusSource.mem_of_nodup {sources : List BusSource} (hnodup : sources.Nodup) (hlength : sources.length = 16)
    (src : BusSource) : src ∈ sources := by
  have hsub : sources.Subperm BusSource.all := hnodup.subperm fun other _ => mem_all other
  have hperm : sources.Perm BusSource.all := hsub.perm_of_length_le hlength.ge
  exact hperm.mem_iff.mpr (mem_all src)

/-- A bijective selector map names every source (R9). -/
theorem SelectorMap.exists_source_eq (h : m.wf = true) (src : BusSource) : ∃ c, m.source c = src := by
  cases m with
  | reference => exact ⟨code .reference src, by cases src <;> decide⟩
  | custom sources =>
    have hmem : src ∈ sources.toList := BusSource.mem_of_nodup (of_decide_eq_true h) sources.length_toList src
    obtain ⟨k, hk, hsrc⟩ := List.mem_iff_getElem.mp hmem
    exact ⟨BitVec.ofFin ⟨k, by simpa using hk⟩, hsrc⟩

/-- The code that SEL_MAP finds for a source that stands at some code names the source. -/
theorem SelectorMap.source_code_of_exists {src : BusSource} (h : ∃ c, m.source c = src) :
    m.source (m.code src) = src := by
  obtain ⟨c, hc⟩ := h
  cases hfind : (List.range 16).find? fun n => m.source (BitVec.ofNat 4 n) == src with
  | none =>
    have hne := List.find?_eq_none.mp hfind c.toNat (List.mem_range.mpr c.isLt)
    simp [hc] at hne
  | some n =>
    have hn := List.find?_some hfind
    simpa [code, hfind] using hn

/-- `source` undoes SEL_MAP at every well-formed map (R67, R100). -/
theorem SelectorMap.source_code (h : m.wf = true) (src : BusSource) : m.source (m.code src) = src :=
  source_code_of_exists (exists_source_eq h src)

theorem Config.selectorMap_wf {cfg : Config} (h : cfg.wf = true) : cfg.selectorMap.wf = true :=
  (Bool.and_eq_true_iff.mp h).2

end Sys2Proof
end

section
/-! The statement about SEL after reset (O43). -/

namespace Sys2Proof.Machine

/-- The source that SEL selects after reset is the literal register (R232). -/
theorem busSource_resetWith {cfg : Config} (h : cfg.wf = true) (draw : ResetDraw) :
    busSource (State.resetWith cfg draw) = .lit :=
  SelectorMap.source_code (Config.selectorMap_wf h) .lit

/-- Settles O43: reset puts into SEL the code of LIT, which names LIT because a well-formed map is a bijection, and the bus
then carries the literal register, which holds its draw. -/
theorem resetSelectsTheLiteral : Obligations.ResetSelectsTheLiteral := fun _ draw hwf =>
  ⟨busSource_resetWith hwf draw, bus_of_busSource (busSource_resetWith hwf draw)⟩

end Sys2Proof.Machine
end

section
/-! SUPPORT. The opcode map as an injection, and a word through its three image bytes and back: under a well-formed map the
search by type finds the class that has it (00_scope.md R9, 30_encoding.md R64, R65; 20_memory.md R57). -/

namespace Sys2Proof

variable {m : OpcodeMap}

/-- The reference type of a class is its place in the table of R64 (decision D1). -/
theorem refOpcode_toNat (c : OpClass) : (refOpcode c).toNat = c.index.val := by cases c <;> rfl

/-- Every place of R64's table is a class's. -/
theorem OpClass.exists_index_eq (k : Fin 35) : ∃ c : OpClass, c.index = k := by
  have hplaces : ∀ k : Fin 35, OpClass.all[k.val].index = k := by decide
  exact ⟨_, hplaces k⟩

/-- The 35 values of a map are different exactly when the map from classes to types is injective. -/
theorem OpcodeMap.nodup_iff_injective (values : Vector OpType 35) :
    values.toList.Nodup ↔ Function.Injective (OpcodeMap.custom values).code := by
  have hcode (c : OpClass) : (OpcodeMap.custom values).code c = values[c.index.val] := rfl
  rw [List.nodup_iff_injective_getElem]
  constructor
  · intro h c c' hcc'
    have hindex := @h ⟨c.index.val, by simp⟩ ⟨c'.index.val, by simp⟩ hcc'
    exact OpClass.index_injective c c' (Fin.ext (Fin.mk.inj hindex))
  · intro h k k' hkk'
    obtain ⟨c, hc⟩ := OpClass.exists_index_eq ⟨k.val, by simpa using k.isLt⟩
    obtain ⟨c', hc'⟩ := OpClass.exists_index_eq ⟨k'.val, by simpa using k'.isLt⟩
    have hcc' : c = c' := h (by simpa [hcode, hc, hc'] using hkk')
    have hindex : c.index = c'.index := congrArg _ hcc'
    rw [hc, hc'] at hindex
    exact Fin.ext (Fin.mk.inj hindex)

/-- Every map from classes to types is that of an opcode map. -/
theorem OpcodeMap.exists_code_eq (f : OpClass → OpType) : ∃ m : OpcodeMap, m.code = f := by
  refine ⟨.custom (Vector.ofFn fun k => f OpClass.all[k.val]), funext fun c => ?_⟩
  obtain ⟨hlt, hc⟩ := List.getElem_of_getElem? c.all_index
  calc (Vector.ofFn fun k : Fin 35 => f OpClass.all[k.val]).get c.index
      = f OpClass.all[c.index.val] := Vector.get_ofFn _ c.index
    _ = f c := congrArg f hc

/-- What `wf` checks of an opcode map is R9's injectivity. -/
theorem OpcodeMap.wf_iff_injective (m : OpcodeMap) : m.wf = true ↔ Function.Injective m.code := by
  cases m with
  | custom values => exact decide_eq_true_iff.trans (nodup_iff_injective values)
  | reference =>
    refine iff_of_true rfl fun c c' h => OpClass.index_injective c c' (Fin.ext ?_)
    calc c.index.val
        = (refOpcode c).toNat := (refOpcode_toNat c).symm
      _ = (refOpcode c').toNat := congrArg BitVec.toNat h
      _ = c'.index.val := refOpcode_toNat c'

/-- Under a well-formed map the search by a class's type finds that class. -/
theorem OpcodeMap.classOf_code (h : m.wf = true) (c : OpClass) : m.classOf (m.code c) = some c := by
  cases hfind : m.classOf (m.code c) with
  | none => exact absurd rfl ((m.classOf_eq_none _).mp hfind c)
  | some c' => exact congrArg some ((m.wf_iff_injective.mp h) (m.code_of_classOf _ _ hfind))

/-- A word is decoded exactly when some class has its type (R65). -/
theorem exists_decodeWord_eq_ok_iff (m : OpcodeMap) (w : ProgWord) :
    (∃ i, decodeWord m w = .ok i) ↔ ∃ c, m.code c = typeOf w := by
  cases hdecode : decodeWord m w with
  | ok i => exact iff_of_true ⟨i, rfl⟩ ⟨i.cls, m.code_of_classOf _ _ ((decodeWord_eq_ok m w i).mp hdecode).1⟩
  | error e =>
    obtain ⟨hnone, -⟩ := (decodeWord_eq_error m w e).mp hdecode
    exact iff_of_false nofun fun ⟨c, hc⟩ => hnone c hc

/-- An instruction's word decodes to it under every well-formed map (R61, R64). -/
theorem decodeWord_encode (h : m.wf = true) (i : Instr) : decodeWord m (encode m i) = .ok i := by
  rw [decodeWord_eq_ok, encode, typeOf_wordOf, dataOf_wordOf]
  exact ⟨OpcodeMap.classOf_code h i.cls, rfl⟩

/-- A decoded word is the encoding of what it decodes to: its two fields are the class's type and the immediate. -/
theorem encode_of_decodeWord {w : ProgWord} {i : Instr} (h : decodeWord m w = .ok i) : encode m i = w := by
  obtain ⟨hclass, hdata⟩ := (decodeWord_eq_ok m w i).mp h
  rw [encode, m.code_of_classOf _ _ hclass, hdata, Machine.wordOf_typeOf_dataOf]

/-- The three bytes of a word make up the word again (R57). -/
theorem exists_bytesOfWord_eq (w : ProgWord) : ∃ b0 b1 b2, bytesOfWord w = [b0, b1, b2] ∧ wordOfBytes b0 b1 b2 = w := by
  refine ⟨_, _, _, rfl, BitVec.eq_of_toNat_eq ?_⟩
  have hw := w.isLt
  simp only [wordOfBytes_toNat, BitVec.extractLsb'_toNat, Nat.shiftRight_eq_div_pow]
  omega

/-- Three bytes are the bytes of the word they make up (R57). -/
theorem bytesOfWord_wordOfBytes (b0 b1 b2 : Byte) : bytesOfWord (wordOfBytes b0 b1 b2) = [b0, b1, b2] := by
  have h0 := b0.isLt
  have h1 := b1.isLt
  have h2 := b2.isLt
  simp only [bytesOfWord, List.cons.injEq, ← BitVec.toNat_inj, BitVec.extractLsb'_toNat, wordOfBytes_toNat,
    Nat.shiftRight_eq_div_pow]
  refine ⟨?low, ?middle, ?high, trivial⟩
  all_goals omega

/-- The bytes of a word, with any bytes after them, decode as the word does. -/
theorem decodeBytes_bytesOfWord_append (m : OpcodeMap) (w : ProgWord) (rest : List Byte) :
    decodeBytes m (bytesOfWord w ++ rest) = (decodeWord m w).map (·, rest) := by
  obtain ⟨b0, b1, b2, hbytes, hword⟩ := exists_bytesOfWord_eq w
  rw [hbytes, List.cons_append, List.cons_append, List.cons_append, List.nil_append, decodeBytes, hword]
  cases decodeWord m w <;> rfl

/-- Decoded bytes are the bytes of a word that decodes, and what follows them. -/
theorem bytes_of_decodeBytes {bytes rest : List Byte} {i : Instr} (h : decodeBytes m bytes = .ok (i, rest)) :
    ∃ w, decodeWord m w = .ok i ∧ bytes = bytesOfWord w ++ rest := by
  match bytes with
  | [] | [_] | [_, _] => exact nomatch h
  | b0 :: b1 :: b2 :: tail =>
    have hbytes : b0 :: b1 :: b2 :: tail = bytesOfWord (wordOfBytes b0 b1 b2) ++ tail := by
      rw [bytesOfWord_wordOfBytes]
      rfl
    rw [hbytes, decodeBytes_bytesOfWord_append] at h
    cases hdecode : decodeWord m (wordOfBytes b0 b1 b2) with
    | error e => rw [hdecode] at h; exact nomatch h
    | ok j =>
      rw [hdecode] at h
      obtain ⟨rfl, rfl⟩ := Prod.mk.inj (Except.ok.inj h)
      exact ⟨_, hdecode, hbytes⟩

end Sys2Proof
end

section
/-! The statements about the encoding: decode after encode (O2), encode after decode (O3), the rejected words (O4) and the
sample words (O5). -/

namespace Sys2Proof

/-- Settles O2: the two fields of an encoded word are read back, and an injective map finds the class by its type. -/
theorem decodeOfEncodeIsIdentity : Obligations.DecodeOfEncodeIsIdentity := by
  intro m i hm _
  refine ⟨decodeWord_encode hm i, fun rest => ?_⟩
  rw [encodeBytes, decodeBytes_bytesOfWord_append, decodeWord_encode hm i]
  rfl

/-- Settles O3, for every map: what the search finds has the type searched for. -/
theorem encodeOfDecodeIsIdentity : Obligations.EncodeOfDecodeIsIdentity := by
  refine ⟨fun m w i h => encode_of_decodeWord h, fun m bytes rest i h => ?_⟩
  obtain ⟨w, hdecode, rfl⟩ := bytes_of_decodeBytes h
  rw [encodeBytes, encode_of_decodeWord hdecode]

/-- The types without a class at the reference map are those from 0x23 on (R64, decision D1). -/
theorem refOpcode_ne_iff (t : OpType) : (∀ c, refOpcode c ≠ t) ↔ 0x23 ≤ t.toNat := by
  constructor
  · intro hnone
    by_contra hlt
    obtain ⟨c, hc⟩ := OpClass.exists_index_eq ⟨t.toNat, by omega⟩
    exact hnone c (BitVec.eq_of_toNat_eq (by rw [refOpcode_toNat, hc]))
  · rintro hle c rfl
    have hindex := c.index.isLt
    rw [refOpcode_toNat] at hle
    omega

/-- Settles O4. -/
theorem wordRejectedIffNoHandler : Obligations.WordRejectedIffNoHandler :=
  ⟨fun m w => ⟨(decodeWord_eq_error m w _).trans (and_iff_left rfl), exists_decodeWord_eq_ok_iff m w⟩, refOpcode_ne_iff⟩

/-- Settles O5 by running the decoder on each word. -/
theorem sampleWordsDecode : Obligations.SampleWordsDecode := by
  refine ⟨?lith, ?bus, ?seta, ?jne, ?call, ?dwr, ?spkr, ?unassigned⟩
  all_goals decide

end Sys2Proof
end

section
/-! SUPPORT. The selector map as a bijection in both directions, and the comparator of an arbitrary outcome function
(00_scope.md R9, 30_encoding.md R67, 42_comparator_branches.md R120). -/

namespace Sys2Proof

/-- Each code of the reference map names the source at its place in R67's table (decisions D2, D18). -/
theorem BusSource.all_getElem_eq_refSource (c : SelCode) : BusSource.all[c.toNat]? = some (refSource c) := by
  revert c
  decide

/-- SEL_MAP undoes `source` at the reference map (R67). -/
theorem SelectorMap.code_source_reference (c : SelCode) :
    SelectorMap.code .reference (SelectorMap.source .reference c) = c := by
  revert c
  decide

/-- The 16 sources of a map are different exactly when the map from codes to sources is injective. -/
theorem SelectorMap.nodup_iff_injective (sources : Vector BusSource 16) :
    sources.toList.Nodup ↔ Function.Injective (SelectorMap.custom sources).source := by
  have hsource (c : SelCode) : (SelectorMap.custom sources).source c = sources[c.toNat] := rfl
  rw [List.nodup_iff_injective_getElem]
  constructor
  · intro h c c' hcc'
    have hcode := @h ⟨c.toNat, by simpa using c.isLt⟩ ⟨c'.toNat, by simpa using c'.isLt⟩ hcc'
    exact BitVec.eq_of_toNat_eq (Fin.mk.inj hcode)
  · intro h k k' hkk'
    have hk : k.val < 16 := by simpa using k.isLt
    have hk' : k'.val < 16 := by simpa using k'.isLt
    have hcode : BitVec.ofNatLT k.val hk = BitVec.ofNatLT k'.val hk' := h (by simpa [hsource] using hkk')
    exact Fin.ext (by simpa using congrArg BitVec.toNat hcode)

/-- Every map from codes to sources is that of a selector map. -/
theorem SelectorMap.exists_source_fun_eq (f : SelCode → BusSource) : ∃ m : SelectorMap, m.source = f :=
  ⟨.custom (Vector.ofFn fun k => f (BitVec.ofFin k)), funext fun c => Vector.get_ofFn _ c.toFin⟩

/-- What `wf` checks of a selector map is R9's bijectivity: 16 different sources are all there are. -/
theorem SelectorMap.wf_iff_bijective (m : SelectorMap) : m.wf = true ↔ Function.Bijective m.source := by
  have hinjective : m.wf = true ↔ Function.Injective m.source := by
    cases m with
    | custom sources => exact decide_eq_true_iff.trans (nodup_iff_injective sources)
    | reference => exact iff_of_true rfl (Function.LeftInverse.injective code_source_reference)
  exact ⟨fun h => ⟨hinjective.mp h, exists_source_eq h⟩, fun h => hinjective.mpr h.1⟩

end Sys2Proof

namespace Sys2Proof.Machine

/-- A list of values, each entered with its image under `f`, gives each of them that image. -/
theorem listedOutcome_map (otherwise : CmpOutcome) (f : Word → CmpOutcome) {values : List Word} {w : Word}
    (hw : w ∈ values) : listedOutcome otherwise (values.map fun v => (v, f v)) w = f w := by
  induction values with
  | nil => exact absurd hw List.not_mem_nil
  | cons v values ih =>
    rw [List.map_cons, listedOutcome]
    split
    case isTrue hwv => rw [hwv]
    case isFalse hwv => exact ih ((List.mem_cons.mp hw).resolve_left hwv)

/-- Every outcome function is that of a comparator: the words are finitely many. -/
theorem exists_cmpOutcome_eq (f : Word → CmpOutcome) : ∃ c : Comparator, ∀ w, cmpOutcome c w = f w := by
  obtain ⟨values, -, hall⟩ := Finite.exists_univ_list Word
  exact ⟨.custom (values.map fun v => (v, f v)) .eq, fun w => listedOutcome_map .eq f (hall w)⟩

end Sys2Proof.Machine
end

section
/-! The statements about the parameters: what maps they cover (O29) and the reference selector map (O53). -/

namespace Sys2Proof.Machine

/-- Settles O29: what `wf` checks are injectivity and bijectivity, and any map can be listed, value by value. -/
theorem parametersCoverEveryMap : Obligations.ParametersCoverEveryMap := by
  refine ⟨fun f => ?opcodes, fun f => ?selectors, exists_cmpOutcome_eq⟩
  case opcodes =>
    obtain ⟨m, rfl⟩ := OpcodeMap.exists_code_eq f
    exact ⟨m, fun _ => rfl, m.wf_iff_injective⟩
  case selectors =>
    obtain ⟨m, rfl⟩ := SelectorMap.exists_source_fun_eq f
    exact ⟨m, fun _ => rfl, m.wf_iff_bijective⟩

/-- The four bits that BUS keeps of its immediate, as arithmetic (R87, decision D3). -/
theorem busSelection_toNat (d : Imm) : (d.extractLsb' 0 4).toNat = d.toNat % 16 := by
  rw [BitVec.extractLsb'_toNat, Nat.shiftRight_zero]

/-- Settles O53: the table is read off code by code, and BUS leaves in SEL the code that its immediate's low nibble is. -/
theorem referenceSelectorMapNamesEachSource : Obligations.ReferenceSelectorMapNamesEachSource := by
  refine ⟨by decide, SelectorMap.code_source_reference, SelectorMap.source_code rfl, fun s d hmap => ?_⟩
  refine ⟨execNext (.bus d) s, exec_eq_execNext _ s, ?_⟩
  have hsource : busSource (execNext (.bus d) s) = refSource (d.extractLsb' 0 4) := by
    rw [execNext, busSource, handlerWrite_cfg, afterFetch_cfg, hmap]
    rfl
  rw [hsource, ← BusSource.all_getElem_eq_refSource, busSelection_toNat]
  rfl

end Sys2Proof.Machine
end

section
/-! SUPPORT. What R9 says of the lengths and the opcode map of a well-formed configuration. -/

namespace Sys2Proof

variable {cfg : Config}

theorem Config.opcodeMap_wf (h : cfg.wf = true) : cfg.opcodeMap.wf = true :=
  (Bool.and_eq_true_iff.mp (Bool.and_eq_true_iff.mp h).1).2

theorem Config.cacheLen_pos (h : cfg.wf = true) : 0 < cfg.cacheLen := by
  simp only [Config.wf, Bool.and_eq_true, decide_eq_true_eq] at h
  omega

theorem Config.dramLen_pos (h : cfg.wf = true) : 0 < cfg.dramLen := by
  simp only [Config.wf, Bool.and_eq_true, decide_eq_true_eq] at h
  omega

end Sys2Proof
end

section
/-! SUPPORT. The load of an image: its words in terms of its bytes, what program memory reads after it, and the image of a
list of words (20_memory.md R57). -/

namespace Sys2Proof.Machine

variable {w len : Nat}

/-- Word k of an image is made of its bytes 3k to 3k+2, low byte first (R57). -/
theorem wordsOfImage_getElem? (bytes : List Byte) (k : Nat) (hk : k < bytes.length / 3) :
    (wordsOfImage bytes)[k]? =
      some (wordOfBytes (bytes.getD (3 * k) 0) (bytes.getD (3 * k + 1) 0) (bytes.getD (3 * k + 2) 0)) := by
  induction bytes using wordsOfImage.induct generalizing k with
  | case1 b0 b1 b2 rest ih =>
    cases k with
    | zero => rfl
    | succ k =>
      simp only [List.length_cons] at hk
      exact ih k (by omega)
  | case2 bytes hshort =>
    match bytes with
    | [] | [_] | [_, _] => simp at hk
    | b0 :: b1 :: b2 :: rest => exact absurd rfl (hshort b0 b1 b2 rest)

/-- What consecutive words stored in a canonical memory leave at an index: the word that falls on it, or what was there. -/
theorem readWord_storeWords {m : Cells w} (hm : m.Pairwise fun x y => x.1 < y.1) (words : List (BitVec w))
    (first k : Nat) :
    readWord (storeWords m first words) k =
      if first ≤ k then (words[k - first]?).getD (readWord m k) else readWord m k := by
  induction words generalizing m first with
  | nil => simp [storeWords]
  | cons v rest ih =>
    rw [storeWords, ih (pairwise_writeWord m first v hm), readWord_writeWord m first k v hm]
    rcases Nat.lt_trichotomy k first with hlt | rfl | hgt
    · rw [if_neg (by omega), if_neg (by omega), if_neg (by omega)]
    · simp
    · have hindex : k - first = k - (first + 1) + 1 := by omega
      rw [if_pos (by omega), if_neg (by omega), if_pos (by omega), hindex, List.getElem?_cons_succ]

/-- After a load into canonical program memory, index k reads word k of the image where it has one. -/
theorem readWord_storeWords_zero {m : Cells w} (hm : Memory.wf len m = true) (words : List (BitVec w)) (k : Nat) :
    readWord (storeWords m 0 words) k = (words[k]?).getD (readWord m k) := by
  obtain ⟨hrising, -⟩ := (Memory.wf_iff len m).mp hm
  rw [readWord_storeWords hrising, if_pos (Nat.zero_le k), Nat.sub_zero]

/-- The image of words has those words (R57). -/
theorem wordsOfImage_imageOfWords (words : List ProgWord) : wordsOfImage (imageOfWords words) = words := by
  induction words with
  | nil => rfl
  | cons v rest ih =>
    obtain ⟨b0, b1, b2, hbytes, hword⟩ := exists_bytesOfWord_eq v
    have himage : imageOfWords (v :: rest) = b0 :: b1 :: b2 :: imageOfWords rest := by
      rw [imageOfWords, List.flatMap_cons, hbytes]
      rfl
    rw [himage, wordsOfImage, ih, hword]

/-- An image with more words than program memory has does not load (R57, decision D16). -/
theorem loadImage_tooLong {bytes : List Byte} {s : State} (h : s.cfg.progLen < (wordsOfImage bytes).length) :
    loadImage (some bytes) s = .error .tooLong :=
  if_neg (Nat.not_le.mpr h)

end Sys2Proof.Machine
end

section
/-! The statements about the load: an image of any bytes (O45) and the image of a program (O46). -/

namespace Sys2Proof.Machine

/-- Settles O45: the load stores the image's words in program memory and touches nothing else. -/
theorem imageLoadsLittleEndianWords : Obligations.ImageLoadsLittleEndianWords := by
  refine ⟨fun s bytes hprog hfits => ?fits, fun s bytes hlong => ?tooLong, fun s => rfl⟩
  case tooLong => exact loadImage_tooLong (by rwa [length_wordsOfImage])
  case fits =>
    have hload := (loadImage_eq_ok s (some bytes) _).mpr ⟨bytes, rfl, by rwa [length_wordsOfImage], rfl⟩
    refine ⟨_, hload, rfl, fun k => ?_⟩
    rw [State.setProg_prog, readWord_storeWords_zero hprog]
    split
    case isTrue hk => rw [wordsOfImage_getElem? bytes k hk, Option.getD_some, wordOfBytes_toNat]
    case isFalse hk => rw [List.getElem?_eq_none (by rw [length_wordsOfImage]; omega), Option.getD_none]

/-- The bytes of a program are the image of its words. -/
theorem flatMap_encodeBytes_eq_imageOfWords (m : OpcodeMap) (program : List Instr) :
    program.flatMap (encodeBytes m) = imageOfWords (program.map (encode m)) :=
  (List.flatMap_map (encode m) bytesOfWord program).symm

/-- The three memories of a canonical draw are canonical. -/
theorem ResetDraw.wf_iff (cfg : Config) (draw : ResetDraw) :
    draw.wf cfg = true ↔ Memory.wf cfg.cacheLen draw.cache = true ∧ Memory.wf cfg.dramLen draw.dram = true ∧
      Memory.wf cfg.progLen draw.prog = true := by
  rw [ResetDraw.wf, Bool.and_eq_true, Bool.and_eq_true, and_assoc]

/-- Settles O46: the image of the program's words has those words, the load puts word k at index k, and the word decodes to
the instruction it encodes. -/
theorem loadedInstructionsAreFetched : Obligations.LoadedInstructionsAreFetched := by
  intro cfg draw program hcfg hdraw hfits
  obtain ⟨-, -, hprog⟩ := (ResetDraw.wf_iff cfg draw).mp hdraw
  have hwords := wordsOfImage_imageOfWords (program.map (encode cfg.opcodeMap))
  rw [← flatMap_encodeBytes_eq_imageOfWords] at hwords
  refine ⟨_, (loadImage_eq_ok _ _ _).mpr ⟨_, rfl, by simpa [hwords] using hfits, rfl⟩, fun k hk => ?_⟩
  rw [State.setProg_prog, State.resetWith_prog, readWord_storeWords_zero hprog, hwords, List.getElem?_map,
    List.getElem?_eq_getElem hk]
  exact decodeWord_encode (Config.opcodeMap_wf hcfg) program[k]

end Sys2Proof.Machine
end

section
/-! SUPPORT. The invariant, part by part: the two memories that a commit writes, and a
recorded fault (20_memory.md R44, 60_exceptions.md R201, R203, R206). -/

namespace Sys2Proof.Machine

variable {s t : State}

theorem cacheIndex_lt (h : s.cfg.wf = true) : cacheIndex s < s.cfg.cacheLen :=
  Nat.mod_lt _ (Config.cacheLen_pos h)

theorem dramIndex_lt (h : s.cfg.wf = true) : dramIndex s < s.cfg.dramLen :=
  Nat.mod_lt _ (Config.dramLen_pos h)

/-- What every executed instruction keeps of a state element that the fetch and the run status leave alone, every step
keeps. -/
theorem step_keeps_of_execNext {α : Type} (f : State → α) (P : α → Prop) (h : step s = .next t) (hs : P (f s))
    (hexec : ∀ i, P (f (execNext i s)))
    (hstatus : ∀ s st, f (State.setStatus s st) = f s := by exact fun _ _ => rfl)
    (hfetch : ∀ d s, f (afterFetch d s) = f s := by exact fun _ _ => rfl) : P (f t) := by
  obtain hkeep | ⟨-, hft⟩ | ⟨i, -, hft⟩ := step_element_cases f h hstatus
  · exact hkeep ▸ hs
  · rw [hft, hfetch]
    exact hs
  · exact hft ▸ hexec i

/-- The cache stays canonical in every instruction: CWR writes inside its length, the others do not write it. -/
theorem execNext_keeps_cache_wf (hcfg : s.cfg.wf = true) (hs : Memory.wf s.cfg.cacheLen s.cache = true) (i : Instr) :
    Memory.wf s.cfg.cacheLen (execNext i s).cache = true := by
  by_cases hc : i.cls = .cwr
  · obtain ⟨d, rfl⟩ : ∃ d, i = .cwr d := ⟨i.data, by rw [← Instr.instr_of_cls i, hc]; rfl⟩
    exact writeWord_keeps_wf _ _ _ _ hs (cacheIndex_lt hcfg)
  · rw [execNext, handlerWrite_cache _ _ hc]
    exact hs

/-- DRAM stays canonical in every instruction, as the cache does. -/
theorem execNext_keeps_dram_wf (hcfg : s.cfg.wf = true) (hs : Memory.wf s.cfg.dramLen s.dram = true) (i : Instr) :
    Memory.wf s.cfg.dramLen (execNext i s).dram = true := by
  by_cases hc : i.cls = .dwr
  · obtain ⟨d, rfl⟩ : ∃ d, i = .dwr d := ⟨i.data, by rw [← Instr.instr_of_cls i, hc]; rfl⟩
    exact writeWord_keeps_wf _ _ _ _ hs (dramIndex_lt hcfg)
  · rw [execNext, handlerWrite_dram _ _ hc]
    exact hs

/-- A core without a recorded fault has nothing to be consistent with. -/
theorem faultConsistent_of_running (h : s.status = .running) : s.FaultConsistent := by
  simp [State.FaultConsistent, h]

/-- The fault of an unknown opcode names the word one before PC, and that word's data is in the low half of LIT: the
increment and the fold came first (R201, R206). -/
theorem faultConsistent_raiseUnknownOpcode (h : s.Fetching)
    (hnone : ∀ c, s.cfg.opcodeMap.code c ≠ typeOf s.nextWord) :
    (raiseUnknownOpcode s.nextWord s).FaultConsistent := by
  obtain ⟨-, -, hpc⟩ := h
  have hback : s.pc + 1 - 1 = s.pc := add_sub_cancel_right s.pc 1
  have hlow : (foldLow s.lit (dataOf s.nextWord)).extractLsb' 0 16 = dataOf s.nextWord :=
    BitVec.eq_of_toNat_eq ((BitVec.extractLsb'_toNat ..).trans (foldLow_low s.lit (dataOf s.nextWord)))
  simp only [State.FaultConsistent, raiseUnknownOpcode_status, raiseUnknownOpcode_cfg, raiseUnknownOpcode_pc,
    raiseUnknownOpcode_prog, raiseUnknownOpcode_lit, hback]
  exact ⟨hnone, hpc, rfl, hlow⟩

/-- Whatever fault a step records is consistent with the state it leaves. -/
theorem step_faultConsistent (h : step s = .next t) : t.FaultConsistent := by
  obtain ⟨hrun, ⟨-, rfl⟩ | ⟨-, hpc, rfl⟩ | ⟨hfetching, hnone, rfl⟩ | ⟨i, -, hexec⟩⟩ := step_cases s t h
  · trivial
  · exact ⟨rfl, hpc⟩
  · exact faultConsistent_raiseUnknownOpcode hfetching hnone
  · obtain rfl := (exec_eq_next i s t).mp hexec
    exact faultConsistent_of_running ((execNext_status i s).trans hrun)

/-- The machine after reset meets the invariant, under any parameters of R9 and any canonical draw. -/
theorem resetWith_inv {cfg : Config} {draw : ResetDraw} (hcfg : cfg.wf = true) (hdraw : draw.wf cfg = true) :
    (State.resetWith cfg draw).Inv := by
  obtain ⟨hcache, hdram, hprog⟩ := (ResetDraw.wf_iff cfg draw).mp hdraw
  exact ⟨hcfg, hcache, hdram, hprog, faultConsistent_of_running rfl⟩

end Sys2Proof.Machine
end

section
/-! The statements about the invariant: at reset (O47), after a launch (O48) and over a step (O49). -/

namespace Sys2Proof.Machine

/-- Settles O47. -/
theorem resetMeetsTheInvariant : Obligations.ResetMeetsTheInvariant :=
  resetWith_inv (by decide) (by decide)

/-- Settles O48: the load writes program memory alone, and keeps it canonical since the image fits. -/
theorem launchMeetsTheInvariant : Obligations.LaunchMeetsTheInvariant := by
  intro cfg draw image s hcfg hdraw hlaunch
  obtain ⟨bytes, -, hfits, rfl⟩ := (loadImage_eq_ok _ image s).mp hlaunch
  obtain ⟨-, hcache, hdram, hprog, hfault⟩ := resetWith_inv hcfg hdraw
  exact ⟨hcfg, hcache, hdram, storeWords_keeps_wf _ _ _ 0 hprog (by rwa [Nat.zero_add]), hfault⟩

/-- Settles O49: the parameters and program memory are written by no step, the other two memories by their commits only, and
a fault by the step that records it. -/
theorem stepKeepsTheInvariant : Obligations.StepKeepsTheInvariant := by
  rintro s t ⟨hcfg, hcache, hdram, hprog, -⟩ h
  have hsame : t.cfg = s.cfg := step_keeps_element State.cfg handlerWrite_cfg h
  have hsameProg : t.prog = s.prog := step_keeps_element State.prog handlerWrite_prog h
  unfold State.Inv
  rw [hsame, hsameProg]
  exact ⟨hcfg,
    step_keeps_of_execNext State.cache (Memory.wf s.cfg.cacheLen · = true) h hcache (execNext_keeps_cache_wf hcfg hcache),
    step_keeps_of_execNext State.dram (Memory.wf s.cfg.dramLen · = true) h hdram (execNext_keeps_dram_wf hcfg hdram),
    hprog, step_faultConsistent h⟩

end Sys2Proof.Machine
end

section
/-! SUPPORT. The step's first two checks, and the word that `withFetchWord` places (60_exceptions.md R203, R208, R216). -/

namespace Sys2Proof.Machine

variable {s : State}

/-- A requested stop is the step of a running core, wherever PC is (R216). -/
theorem step_of_stopRequested (hrun : s.status = .running) (hstop : s.stopRequested = true) :
    step s = .next (takeStop s) := by
  simp [step, (haltReason_eq_none _).mpr hrun, hstop]

/-- A fetch beyond program memory is the step of a running core that is not asked to stop (R203, decision D9). -/
theorem step_of_progLen_le (hrun : s.status = .running) (hstop : s.stopRequested = false)
    (hpc : s.cfg.progLen ≤ s.pc.toNat) : step s = .next (raiseFetchOutOfRange s) := by
  simp [step, (haltReason_eq_none _).mpr hrun, hstop, (fetch_eq_none s).mpr hpc]

/-- The bytes that the bits of a table row stand for are those of the word of these bits. -/
theorem tableBytes_eq_bytesOfWord (v : Nat) : tableBytes 24 v = bytesOfWord (BitVec.ofNat 24 (v % 2 ^ 24)) := by
  simp only [tableBytes, bytesOfNat, bytesOfWord, List.cons.injEq, ← BitVec.toNat_inj, BitVec.extractLsb'_toNat,
    BitVec.toNat_ofNat, Nat.shiftRight_eq_div_pow]
  refine ⟨?low, ?middle, ?high, trivial⟩
  all_goals omega

/-- The bits of a table row decode as the word of these bits does at the reference map. -/
theorem decodeWord_of_decodeTableWord {v : Nat} {i : Instr} (h : decodeTableWord 24 v = some i) :
    decodeWord .reference (BitVec.ofNat 24 (v % 2 ^ 24)) = .ok i := by
  rw [decodeTableWord, tableBytes_eq_bytesOfWord, ← List.append_nil (bytesOfWord _),
    decodeBytes_bytesOfWord_append] at h
  cases hdecode : decodeWord .reference (BitVec.ofNat 24 (v % 2 ^ 24)) with
  | error e => rw [hdecode] at h; exact nomatch h
  | ok j => rw [hdecode] at h; exact congrArg Except.ok (Option.some.inj h)

/-- The word placed is the word that the next step fetches. -/
theorem nextWord_withFetchWord {len : Nat} (h : Memory.wf len s.prog = true) (v : Nat) :
    (s.withFetchWord 24 v).nextWord = BitVec.ofNat 24 (v % 2 ^ 24) :=
  (readWord_writeWord_of_wf h s.pc.toNat _ s.pc.toNat).trans (if_pos rfl)

/-- The placed word is inside program memory, and nothing keeps the core from its step. -/
theorem fetching_withFetchWord (v : Nat) : (s.withFetchWord 24 v).Fetching :=
  ⟨rfl, rfl, lt_of_lt_of_le (Nat.lt_succ_self s.pc.toNat) (le_max_right ..)⟩

end Sys2Proof.Machine
end

section
/-! The statements about the step: the decoded instruction (O6), the placed one (O7), the fetch beyond program memory (O10)
and the stop (O11). -/

namespace Sys2Proof.Machine

/-- Settles O6. -/
theorem stepRunsDecodedInstruction : Obligations.StepRunsDecodedInstruction := fun s i h =>
  (step_of_executes h).trans (exec_eq_execNext i s).symm

/-- Settles O7: the placed word is fetched and decodes to the table's instruction, so the step is that instruction's. -/
theorem placedInstructionRunsNext : Obligations.PlacedInstructionRunsNext := by
  intro s v i len hprog htable
  refine stepRunsDecodedInstruction _ i ⟨fetching_withFetchWord v, ?_⟩
  rw [nextWord_withFetchWord hprog]
  exact decodeWord_of_decodeTableWord htable

/-- Settles O10. -/
theorem fetchBeyondProgramFaults : Obligations.FetchBeyondProgramFaults := by
  refine ⟨fun s hrun hstop hpc => ⟨step_of_progLen_le hrun hstop hpc, rfl, rfl⟩, fun s hlen hrun hstop => ?_,
    fun _ => rfl, fun _ => rfl⟩
  exact ⟨hrun, hstop, hlen ▸ s.pc.isLt⟩

/-- Settles O11. -/
theorem stopIsTakenBeforeTheFetch : Obligations.StopIsTakenBeforeTheFetch := fun _ hrun =>
  ⟨step_of_stopRequested hrun, step_of_stopRequested hrun rfl⟩

end Sys2Proof.Machine
end

section
/-! The statements about the literal and selector instructions: LITL (O14), BUS (O16) and LITH with what follows it
(O17). -/

namespace Sys2Proof.Machine

/-- Settles O14. -/
theorem litlOnlyFolds : Obligations.LitlOnlyFolds := fun d s => exec_eq_handlerWrite_busAt (.litl d) s

/-- Settles O16. -/
theorem busInstructionSelectsLowNibble : Obligations.BusInstructionSelectsLowNibble := by
  intro d s
  have hsel : BitVec.ofNat 4 (d.toNat % 16) = d.extractLsb' 0 4 :=
    BitVec.eq_of_toNat_eq (by rw [BitVec.toNat_ofNat, Nat.mod_mod, busSelection_toNat])
  rw [hsel]
  exact exec_eq_handlerWrite_busAt (.bus d) s

/-- A literal with `y` in its high half, folded with `x`, is `(y << 16) | x` (R82, R88). -/
theorem foldLow_eq_shiftLeft_or {lit : Word} {y : Imm} (h : lit.toNat / 65536 = y.toNat) (x : Imm) :
    foldLow lit x = y.zeroExtend 32 <<< (16 : Nat) ||| x.zeroExtend 32 := by
  have hx := x.isLt
  have hy := y.isLt
  have hlow : (x.zeroExtend 32).toNat = x.toNat := BitVec.toNat_setWidth_of_le (by decide)
  have hhigh : (y.zeroExtend 32 <<< (16 : Nat)).toNat = y.toNat <<< 16 := by
    rw [BitVec.toNat_shiftLeft, BitVec.toNat_setWidth_of_le (by decide), Nat.mod_eq_of_lt]
    rw [Nat.shiftLeft_eq]
    omega
  apply BitVec.eq_of_toNat_eq
  rw [foldLow_toNat, h, BitVec.toNat_or, hlow, hhigh, ← Nat.shiftLeft_add_eq_or_of_lt hx, Nat.shiftLeft_eq]

/-- Folding in the low half that a literal already has changes nothing (R82). -/
theorem foldLow_eq_self {lit : Word} {d : Imm} (h : lit.toNat % 65536 = d.toNat) : foldLow lit d = lit := by
  apply BitVec.eq_of_toNat_eq
  rw [foldLow_toNat, ← h]
  exact Nat.div_add_mod' lit.toNat 65536

/-- LITH leaves its immediate in the high half of LIT (R86). -/
theorem execNext_lith_lit_high (y : Imm) (s : State) : (execNext (.lith y) s).lit.toNat / 65536 = y.toNat := by
  rw [execNext_lith, State.setLit_lit, setHigh_toNat]
  omega

/-- What follows LITH sees its own immediate below LITH's (R88). -/
theorem foldLow_execNext_lith (y x : Imm) (s : State) :
    foldLow (execNext (.lith y) s).lit x = y.zeroExtend 32 <<< (16 : Nat) ||| x.zeroExtend 32 :=
  foldLow_eq_shiftLeft_or (execNext_lith_lit_high y s) x

/-- Settles O17: the consumer folds its immediate under the high half that LITH left, and LITH itself has folded its own. -/
theorem lithThenConsumerComposes : Obligations.LithThenConsumerComposes := by
  intro s x y
  refine ⟨execNext (.lith y) s, exec_eq_execNext _ s, ?fold, ?load, ?litlLith⟩
  case fold =>
    rintro i rfl
    exact foldLow_execNext_lith y i.data s
  case load =>
    intro hliteral
    have hbus : bus (afterFetch x (execNext (.lith y) s)) = foldLow (execNext (.lith y) s).lit x :=
      bus_of_isLiteral (afterFetch x (execNext (.lith y) s)) hliteral
    exact ⟨_, exec_eq_execNext (.seta x) _, hbus.trans (foldLow_execNext_lith y x s)⟩
  case litlLith =>
    refine ⟨execNext (.lith y) (execNext (.litl x) s), by rw [execAll_cons, execAll_cons, execAll_nil], ?_⟩
    have hself := foldLow_eq_self (execNext_lit_low (.lith y) (execNext (.litl x) s))
    exact hself.symm.trans (foldLow_execNext_lith y y (execNext (.litl x) s))

end Sys2Proof.Machine
end

section
/-! The statements about single sources and loads: the shift right (O19), the literal-valued sources (O23) and SETC
(O25). -/

namespace Sys2Proof.Machine

/-- Settles O19: a bit of A shifted right by one stands one place lower, and no bit of A at place 31 (decision D17). -/
theorem shiftRightSourceBits : Obligations.ShiftRightSourceBits := by
  intro s h
  have hbit (i : Nat) : (bus s).getLsbD i = s.a.getLsbD (1 + i) := by
    rw [bus_of_busSource h]
    exact BitVec.getLsbD_ushiftRight s.a 1 i
  exact ⟨fun i _ => by rw [hbit, Nat.add_comm], (hbit 31).trans (BitVec.getLsbD_of_ge s.a 32 le_rfl)⟩

/-- Settles O23. -/
theorem literalSourcesCarryOwnImmediate : Obligations.LiteralSourcesCarryOwnImmediate := by
  intro s d h
  refine ⟨bus_of_isLiteral s h, ?_⟩
  rw [bus_of_isLiteral (afterFetch d s) h, afterFetch_lit, foldLow_toNat]

/-- The carry-in that a bus value gives, as arithmetic (R113, decision D20). -/
theorem carryOfBus_eq_decide (v : Word) : carryOfBus v = decide (v.toNat / 8 % 2 = 1) := by
  rw [carryOfBus, ← BitVec.testBit_toNat, Nat.testBit_eq_decide_div_mod_eq]

/-- Settles O25. -/
theorem setcTakesBusBitThree : Obligations.SetcTakesBusBitThree := by
  intro d s
  rw [← carryOfBus_eq_decide]
  exact exec_eq_handlerWrite_busAt (.setc d) s

end Sys2Proof.Machine
end

section
/-! The statements about the comparator: its predicates (O27) and the signed order at the reference comparator (O28). -/

namespace Sys2Proof.Machine

/-- Settles O27, outcome by outcome: the predicates are a table over the three outcomes (R120). -/
theorem predicatesAreConsistent : Obligations.PredicatesAreConsistent := by
  intro s
  unfold cmpHolds
  cases cmpOutcome s.cfg.comparator s.flags
  case lt => decide
  case eq => decide
  case gt => decide

/-- The reference comparator is the sign of the latch as a signed number (R121, decision D4). -/
theorem refOutcome_iff (f : Word) :
    (refOutcome f = .eq ↔ f = 0) ∧ (refOutcome f = .lt ↔ f.toInt < 0) ∧ (refOutcome f = .gt ↔ 0 < f.toInt) := by
  have hsign : f.getLsbD 31 = decide (f.toInt < 0) := (BitVec.msb_eq_getLsbD_last f).symm.trans BitVec.msb_eq_toInt
  have hzero : f = 0 ↔ f.toInt = 0 := BitVec.toInt_inj.symm
  simp only [refOutcome, hsign, hzero, decide_eq_true_eq]
  rcases lt_trichotomy f.toInt 0 with hneg | heq | hpos
  · simp [hneg, hneg.ne, hneg.le]
  · simp [heq]
  · simp [hpos, hpos.ne', hpos.not_gt]

/-- Settles O28: without overflow the signed value of a difference is the difference of the signed values. -/
theorem referenceComparatorOrdersDifferences : Obligations.ReferenceComparatorOrdersDifferences := by
  intro x y
  obtain ⟨heq, hlt, hgt⟩ := refOutcome_iff (x - y)
  refine ⟨heq.trans sub_eq_zero, fun hlow hhigh => ?_⟩
  have hdiff : (x - y).toInt = x.toInt - y.toInt := by
    rw [BitVec.toInt_sub]
    exact Int.bmod_eq_of_le (by omega) (by omega)
  rw [hdiff] at hlt hgt
  exact ⟨hlt.trans sub_neg, hgt.trans sub_pos⟩

end Sys2Proof.Machine
end

section
/-! The statements about CALL (O31) and about the address latches (O36). -/

namespace Sys2Proof.Machine

/-- The low 16 bits of a bus value, as arithmetic (R141, decision D6). -/
theorem callTarget_eq_ofNat (v : Word) : v.extractLsb' 0 16 = BitVec.ofNat 16 (v.toNat % 65536) := by
  apply BitVec.eq_of_toNat_eq
  rw [BitVec.extractLsb'_toNat, BitVec.toNat_ofNat, Nat.mod_mod, Nat.shiftRight_zero]

/-- Settles O31. -/
theorem callSavesNextAndGoesThroughTheBus : Obligations.CallSavesNextAndGoesThroughTheBus := by
  intro d s
  rw [← callTarget_eq_ofNat]
  exact exec_eq_handlerWrite_busAt (.call d) s

/-- DINC's step as arithmetic (R154, decision D7). -/
theorem word_add_one_eq_ofNat (v : Word) : v + 1 = BitVec.ofNat 32 ((v.toNat + 1) % 2 ^ 32) := by
  apply BitVec.eq_of_toNat_eq
  rw [BitVec.toNat_add, BitVec.toNat_ofNat, Nat.mod_mod]
  rfl

/-- Settles O36. -/
theorem addressLatchesTakeTheBusOrStep : Obligations.AddressLatchesTakeTheBusOrStep := by
  intro d s
  refine ⟨?caddr, ?daddr, ?dinc⟩
  case caddr => exact exec_eq_handlerWrite_busAt (.caddr d) s
  case daddr => exact exec_eq_handlerWrite_busAt (.daddr d) s
  case dinc =>
    rw [← word_add_one_eq_ofNat]
    exact exec_eq_handlerWrite_busAt (.dinc d) s

end Sys2Proof.Machine
end

section
/-! SUPPORT. Canonical memories as sets of cells, what the memory sources read through another address, and the latch loads
from a literal-valued source (20_memory.md R45, 44_memory_ops.md R150 to R156). -/

namespace Sys2Proof.Machine

variable {w len : Nat}

/-- The cells of a canonical memory are the words that differ from the unlisted one. -/
theorem mem_iff_readWord {m : Cells w} (h : Memory.wf len m = true) (k : Nat) (u : BitVec w) :
    (k, u) ∈ m ↔ readWord m k = u ∧ u ≠ unlistedWord w := by
  obtain ⟨hrising, hcells⟩ := (Memory.wf_iff len m).mp h
  clear h
  induction m with
  | nil => simp +contextual [eq_comm]
  | cons x rest ih =>
    obtain ⟨j, v⟩ := x
    obtain ⟨hbelow, hrest⟩ := List.pairwise_cons.mp hrising
    obtain ⟨⟨-, hv⟩, hcells⟩ := List.forall_mem_cons.mp hcells
    rw [List.mem_cons, readWord_cons, Prod.mk.injEq]
    split
    case isTrue hkj =>
      have hnew : (k, u) ∉ rest := fun hmem => absurd hkj (Nat.ne_of_gt (hbelow _ hmem))
      constructor
      · rintro (⟨-, rfl⟩ | hmem)
        · exact ⟨rfl, hv⟩
        · exact absurd hmem hnew
      · rintro ⟨rfl, -⟩
        exact .inl ⟨hkj, rfl⟩
    case isFalse hkj => rw [← ih hrest hcells, or_iff_right fun h => hkj h.1]

/-- A commit to a canonical cache is read back where it was made (R44). -/
theorem commitCache_read_cacheIndex {u : State} (h : Memory.wf len u.cache = true) :
    readWord (commitCache u).cache (cacheIndex u) = u.cacheData := by
  obtain ⟨hrising, -⟩ := (Memory.wf_iff _ _).mp h
  rw [commitCache_read u _ hrising, if_pos rfl]

/-- A commit to canonical DRAM is read back where it was made (R44). -/
theorem commitDram_read_dramIndex {u : State} (h : Memory.wf len u.dram = true) :
    readWord (commitDram u).dram (dramIndex u) = u.dramData := by
  obtain ⟨hrising, -⟩ := (Memory.wf_iff _ _).mp h
  rw [commitDram_read u _ hrising, if_pos rfl]

/-- A source that reads the cache, through an address latch set to `x`. -/
theorem bus_setCacheAddr {s : State} (h : busSource s = .cacheData) (x : Word) :
    bus (s.setCacheAddr x) = readWord s.cache (x.toNat % s.cfg.cacheLen) :=
  bus_of_busSource (s := s.setCacheAddr x) h

/-- A source that reads DRAM, through an address latch set to `x`. -/
theorem bus_setDramAddr {s : State} (h : busSource s = .dramData) (x : Word) :
    bus (s.setDramAddr x) = readWord s.dram (x.toNat % s.cfg.dramLen) :=
  bus_of_busSource (s := s.setDramAddr x) h

/-- After CWR, the cache source through an address latch set to `x` reads the committed array. -/
theorem bus_execNext_cwr_setCacheAddr {s : State} (h : busSource s = .cacheData) (d : Imm) (x : Word) :
    bus ((execNext (.cwr d) s).setCacheAddr x) =
      readWord (writeWord s.cache (cacheIndex s) s.cacheData) (x.toNat % s.cfg.cacheLen) :=
  bus_setCacheAddr (s := execNext (.cwr d) s) h x

/-- After DWR, the DRAM source as the cache source after CWR. -/
theorem bus_execNext_dwr_setDramAddr {s : State} (h : busSource s = .dramData) (d : Imm) (x : Word) :
    bus ((execNext (.dwr d) s).setDramAddr x) =
      readWord (writeWord s.dram (dramIndex s) s.dramData) (x.toNat % s.cfg.dramLen) :=
  bus_setDramAddr (s := execNext (.dwr d) s) h x

/-- With a literal-valued source, a handler that reads the bus takes the literal with its own immediate folded (R101). -/
theorem execNext_of_isLiteral {s : State} (h : (busSource s).isLiteral = true) (i : Instr) :
    execNext i s = handlerWrite (foldLow s.lit i.data) (afterFetch i.data s) i := by
  rw [execNext, bus_of_isLiteral (afterFetch i.data s) h, afterFetch_lit]

/-- Of two fetches one after the other, the first leaves only its increment: the second fold replaces its own. -/
theorem afterFetch_afterFetch (x y : Imm) (s : State) :
    afterFetch y (afterFetch x s) = afterFetch y (s.setPc (s.pc + 1)) :=
  congrArg ((s.setPc (s.pc + 1 + 1)).setLit ·) (foldLow_foldLow s.lit x y)

/-- Of three fetches the order of the first two does not matter: PC counts them and the last fold stays. -/
theorem afterFetch_swap (x y z : Imm) (s : State) :
    afterFetch z (afterFetch y (afterFetch x s)) = afterFetch z (afterFetch x (afterFetch y s)) := by
  simp only [afterFetch_afterFetch]

/-- Two loads from a literal-valued source, then a third instruction: each load takes the literal with its own immediate
folded, when the first leaves the selected source and the folded literal as they are (R101). -/
theorem execAll_load_load {s : State} (h : (busSource s).isLiteral = true) (i j k : Instr)
    (hsource : busSource (execNext i s) = busSource s) (hlit : (execNext i s).lit = foldLow s.lit i.data) :
    execAll [i, j, k] s = .next (execNext k (handlerWrite (foldLow s.lit j.data)
      (afterFetch j.data (handlerWrite (foldLow s.lit i.data) (afterFetch i.data s) i)) j)) := by
  have hsecond : execNext j (execNext i s) =
      handlerWrite (foldLow s.lit j.data) (afterFetch j.data (execNext i s)) j := by
    rw [execNext_of_isLiteral (hsource ▸ h), hlit, foldLow_foldLow]
  rw [execAll_cons, execAll_cons, execAll_cons, execAll_nil, hsecond, execNext_of_isLiteral h i]

/-- DRAM's address, then its data, then the commit: each latch holds the literal with its own immediate (R158). -/
theorem execAll_daddr_ddata_dwr {s : State} (h : (busSource s).isLiteral = true) (x y z : Imm) :
    execAll [.daddr x, .ddata y, .dwr z] s = .next (commitDram
      (((afterFetch z (afterFetch y (afterFetch x s))).setDramAddr (foldLow s.lit x)).setDramData (foldLow s.lit y))) :=
  execAll_load_load h (.daddr x) (.ddata y) (.dwr z) rfl rfl

/-- DRAM's data, then its address, then the commit. -/
theorem execAll_ddata_daddr_dwr {s : State} (h : (busSource s).isLiteral = true) (x y z : Imm) :
    execAll [.ddata y, .daddr x, .dwr z] s = .next (commitDram
      (((afterFetch z (afterFetch x (afterFetch y s))).setDramAddr (foldLow s.lit x)).setDramData (foldLow s.lit y))) :=
  execAll_load_load h (.ddata y) (.daddr x) (.dwr z) rfl rfl

/-- The cache's address, then its data, then the commit, as for DRAM. -/
theorem execAll_caddr_cdata_cwr {s : State} (h : (busSource s).isLiteral = true) (x y z : Imm) :
    execAll [.caddr x, .cdata y, .cwr z] s = .next (commitCache
      (((afterFetch z (afterFetch y (afterFetch x s))).setCacheAddr (foldLow s.lit x)).setCacheData (foldLow s.lit y))) :=
  execAll_load_load h (.caddr x) (.cdata y) (.cwr z) rfl rfl

/-- The cache's data, then its address, then the commit. -/
theorem execAll_cdata_caddr_cwr {s : State} (h : (busSource s).isLiteral = true) (x y z : Imm) :
    execAll [.cdata y, .caddr x, .cwr z] s = .next (commitCache
      (((afterFetch z (afterFetch x (afterFetch y s))).setCacheAddr (foldLow s.lit x)).setCacheData (foldLow s.lit y))) :=
  execAll_load_load h (.cdata y) (.caddr x) (.cwr z) rfl rfl

end Sys2Proof.Machine
end

section
/-! The statements about the memories: aliasing (O38), the order of the latches (O39) and canonical data (O40). -/

namespace Sys2Proof.Machine

/-- Settles O38: the commit is one write at the latch's residue, which the memory source reads at the new latch's. -/
theorem committedWordAliasesModuloLength : Obligations.CommittedWordAliasesModuloLength := by
  refine ⟨fun s d x hwf hsource => ⟨_, exec_eq_execNext (.cwr d) s, ?_⟩,
    fun s d x hwf hsource => ⟨_, exec_eq_execNext (.dwr d) s, ?_⟩⟩
  · rw [bus_execNext_cwr_setCacheAddr hsource, bus_setCacheAddr hsource, readWord_writeWord_of_wf hwf]
    exact ⟨rfl, fun hx => if_pos (hx ▸ Nat.add_mod_right _ _)⟩
  · rw [bus_execNext_dwr_setDramAddr hsource, bus_setDramAddr hsource, readWord_writeWord_of_wf hwf]
    exact ⟨rfl, fun hx => if_pos (hx ▸ Nat.add_mod_right _ _)⟩

/-- Settles O39: both orders commit the same two latches, since each latch load folds its own immediate and the commit's
fold is the last. -/
theorem latchOrderDoesNotMatter : Obligations.LatchOrderDoesNotMatter := by
  intro s x y z h
  refine ⟨⟨_, execAll_daddr_ddata_dwr h x y z, ?dramOrder, fun hwf => ?dramWord⟩,
    ⟨_, execAll_caddr_cdata_cwr h x y z, ?cacheOrder, fun hwf => ?cacheWord⟩⟩
  case dramOrder => rw [execAll_ddata_daddr_dwr h, afterFetch_swap]
  case cacheOrder => rw [execAll_cdata_caddr_cwr h, afterFetch_swap]
  case dramWord =>
    rw [← foldLow_eq_folded, ← foldLow_eq_folded]
    exact commitDram_read_dramIndex hwf
  case cacheWord =>
    rw [← foldLow_eq_folded, ← foldLow_eq_folded]
    exact commitCache_read_cacheIndex hwf

/-- Settles O40: canonical memories that read the same have the same cells, and each lists its cells in rising order. -/
theorem canonicalMemoriesAreDeterminedByReads : Obligations.CanonicalMemoriesAreDeterminedByReads := by
  intro w len m m' h h' hreads
  obtain ⟨hrising, -⟩ := (Memory.wf_iff len m).mp h
  obtain ⟨hrising', -⟩ := (Memory.wf_iff len m').mp h'
  have hcells : ∀ x, x ∈ m ↔ x ∈ m' := fun ⟨k, u⟩ => by rw [mem_iff_readWord h, mem_iff_readWord h', hreads]
  have hantisymm : Std.Antisymm fun x y : Nat × BitVec w => x.1 < y.1 := ⟨fun _ _ h h' => absurd h (Nat.lt_asymm h')⟩
  have hirrefl : Std.Irrefl fun x y : Nat × BitVec w => x.1 < y.1 := ⟨fun x => Nat.lt_irrefl x.1⟩
  exact hrising.eq_of_mem_iff hrising' hcells

end Sys2Proof.Machine
end

section
/-! The statements about the device port: the twelve device instructions (O41) and the record over runs (O42). -/

namespace Sys2Proof.Machine

variable {s t : State}

/-- Settles O41, instruction by instruction: the handler emits one event over the fetched state. -/
theorem deviceInstructionsEmitTheBusValue : Obligations.DeviceInstructionsEmitTheBusValue := by
  intro d s
  refine ⟨?tcolor, ?tchar, ?tcursor, ?ucfg, ?utx, ?rtc, ?kbd, ?timer, ?spkr, ?vpix, ?vblink, ?serdrv⟩
  case tcolor => exact exec_eq_handlerWrite_busAt (.tcolor d) s
  case tchar => exact exec_eq_handlerWrite_busAt (.tchar d) s
  case tcursor => exact exec_eq_handlerWrite_busAt (.tcursor d) s
  case ucfg => exact exec_eq_handlerWrite_busAt (.ucfg d) s
  case utx => exact exec_eq_handlerWrite_busAt (.utx d) s
  case rtc => exact exec_eq_handlerWrite_busAt (.rtc d) s
  case kbd => exact exec_eq_handlerWrite_busAt (.kbd d) s
  case timer => exact exec_eq_handlerWrite_busAt (.timer d) s
  case spkr => exact exec_eq_handlerWrite_busAt (.spkr d) s
  case vpix => exact exec_eq_handlerWrite_busAt (.vpix d) s
  case vblink => exact exec_eq_handlerWrite_busAt (.vblink d) s
  case serdrv => exact exec_eq_handlerWrite_busAt (.serdrv d) s

/-- A handler leaves the record of the port, or adds one event with the bus value it reads (R170). -/
theorem handlerWrite_port_cases (v : Word) (t : State) (i : Instr) :
    (handlerWrite v t i).port = t.port ∨ ∃ e, (handlerWrite v t i).port = t.port ++ [e] ∧ e.value = v := by
  cases i
  case tcolor | tchar | tcursor | ucfg | utx | rtc | kbd | timer | spkr | vpix | vblink | serdrv =>
    exact .inr ⟨_, rfl, rfl⟩
  all_goals exact .inl rfl

/-- A step leaves the record of the port, or adds one event with the bus value of the fetched instruction. -/
theorem step_port_cases (h : step s = .next t) :
    t.port = s.port ∨ ∃ e, t.port = s.port ++ [e] ∧ e.value = Spec.busAt s (dataOf s.nextWord) := by
  obtain hkeep | ⟨-, hkeep⟩ | ⟨i, hi, hport⟩ := step_element_cases State.port h
  · exact .inl hkeep
  · exact .inl hkeep
  · rw [hport, ← hi.data_eq, ← bus_afterFetch]
    exact handlerWrite_port_cases _ (afterFetch i.data s) i

/-- Settles O42: what one step adds, and along a run the events of its steps one after the other. -/
theorem portRecordOnlyGrows : Obligations.PortRecordOnlyGrows := by
  refine ⟨fun s t => step_port_cases, fun s t h => ?_⟩
  refine h.keeps (P := fun u => ∃ events, u.port = s.port ++ events) ?step ⟨[], (List.append_nil _).symm⟩
  rintro u v ⟨events, hu⟩ hstep
  obtain hkeep | ⟨e, hadd, -⟩ := step_port_cases hstep
  · exact ⟨events, hkeep.trans hu⟩
  · exact ⟨events ++ [e], by rw [hadd, hu, List.append_assoc]⟩

end Sys2Proof.Machine
end

section
/-! The statement about the values after reset (O44). -/

namespace Sys2Proof.Machine

/-- Settles O44: the table is what reset assigns, field by field, and a memory without cells reads as the unlisted word. -/
theorem resetGivesTheTabledValues : Obligations.ResetGivesTheTabledValues :=
  ⟨fun _ _ => rfl, rfl, rfl, fun k => ⟨readWord_nil k, readWord_nil k, readWord_nil k⟩⟩

end Sys2Proof.Machine
end
